-- ==== Sys2Proof/Word.lean ====
section
/-! DEFINITION. The widths the manual computes in: bytes on the wire and 16-bit table words. -/

namespace Sys2Proof

/-- A byte of a frame. -/
abbrev Byte := BitVec 8

/-- A table word or a store word (00, Conventions: 16 bits). -/
abbrev Word := BitVec 16

end Sys2Proof
end

