-- ==== Sys2Proof/Config.lean ====
section
/-! DEFINITION. What one part fixes and the manual does not give: the factory serial words. -/

namespace Sys2Proof

/-- The four serial words written into store page 0 at manufacture (R131, R148), by index 0-3.
The manual gives no values: a free value, with no body (entry 14). -/
opaque Config.serialWord : Nat → Word

end Sys2Proof
end

