-- ==== Sys2Proof/Syntax.lean ====
section
/-! DEFINITION. The commands of the block: one constructor per row of spec/opcode_table.json. -/

namespace Sys2Proof

/-- The two segment ports (1.2). -/
inductive PortId where
  | a
  | b
  deriving DecidableEq, Repr

/-- "The other port" of the conventions. -/
def PortId.other : PortId → PortId
  | .a => .b
  | .b => .a

/-- The two conditions that make a line fault (R40). -/
inductive LineFault where
  /-- the receiver finds no bias on the line -/
  | noBias
  /-- the line has read dominant for more than 17,000 consecutive bit times -/
  | stuckDominant
  deriving DecidableEq, Repr

/-- How far a transmission has come on the line (R29). The table's row TRANSMIT_START is the start bit;
the later points have no row of their own (entry 7). -/
inductive TxPoint where
  /-- the start bit is driven: T_WAIT_IDLE to T_ARB -/
  | startBit
  /-- the arbitration field has ended: T_ARB to T_SEND -/
  | fieldEnd
  /-- the last check bit has been sent: T_SEND to T_SLOT -/
  | checkEnd
  /-- the claim bit is read, and with it the hold tolerance (R32) -/
  | claimBit
  deriving DecidableEq, Repr

/-- The acknowledge slot as a sender reads it (R14): unclaimed, or claimed with a hold of so many bit
times after S and the levels of R1 and R2 (true is dominant). -/
inductive SlotRead where
  | unclaimed
  | claimed (hold : Nat) (r1 r2 : Bool)
  deriving DecidableEq, Repr

/-- The commands. Each is one event of the part, whole and indivisible. The operations of a management
request carry no operands here: those stand in the request's payload (R121, entry 5); `words` is how many
of its words a reading operation takes in this step (R120). -/
inductive Instr where
  /-- POWER_ON_RESET: the supply rises to its working level (R159) -/
  | powerOnReset
  /-- LINE_RESET: RESET# goes from high to low (R159) -/
  | lineReset
  /-- RESET_RELEASE: the hold of a reset ends and the Boot Load begins (R159, R161) -/
  | resetRelease
  /-- BOOT_PAGE_LOAD: the next of pages 1-55 is loaded (R162) -/
  | bootPageLoad
  /-- BOOT_LOAD_END (R165) -/
  | bootLoadEnd
  /-- REQUEST_RESET: a pending restart takes place (R143) -/
  | requestReset
  /-- TICK: 1 ms of local time (R54, R103, R41, R153) -/
  | tick
  /-- LINE_FAULT_CHANGE: a fault condition of a port's line appears or clears (R40) -/
  | lineFaultChange (p : PortId) (cause : LineFault) (present : Bool)
  /-- LINK_UP: the debounced level goes up (R41) -/
  | linkUp (p : PortId)
  /-- LINK_DOWN: the debounced level goes down (R19, R28, R35) -/
  | linkDown (p : PortId)
  /-- BUS_IDLE: so many further consecutive recessive bit times are read (R3, R29) -/
  | busIdle (p : PortId) (bits : Nat)
  /-- RECEIVE_COMPLETION: the last check bit of a frame is read (R24) -/
  | receiveCompletion (p : PortId) (bytes : List Byte) (check : Word)
  /-- SYMBOL_ERROR: six equal consecutive bits within a frame (R6) -/
  | symbolError (p : PortId)
  /-- LENGTH_OUT_OF_RANGE: a length byte of 97-255 is read (R8) -/
  | lengthOutOfRange (p : PortId) (length : Byte)
  /-- PAUSE_RX: the end delimiter of a good PAUSE frame (R36) -/
  | pauseRx (p : PortId)
  /-- HOLD_RETEST: a holding port re-tests (R87) -/
  | holdRetest (p : PortId)
  /-- HOLD_EXPIRY: the hold timer expires (R89) -/
  | holdExpiry (p : PortId)
  /-- PAUSE_EXPIRY: a PAUSED port reaches its end time (R37) -/
  | pauseExpiry (p : PortId)
  /-- TRANSMIT_START: a port starts its frame, and the later points of that transmission (R29) -/
  | transmitStart (p : PortId) (point : TxPoint)
  /-- ARB_LOST (R30) -/
  | arbLost (p : PortId)
  /-- COLLISION (R31) -/
  | collision (p : PortId)
  /-- TRANSMIT_OUTCOME: the end delimiter of the port's own frame (R32) -/
  | transmitOutcome (p : PortId) (slot : SlotRead)
  /-- HOLD_BEYOND_TOLERANCE (R15) -/
  | holdBeyondTolerance (p : PortId)
  /-- REQUEST_DECODE: the end of the 40 µs of decode (R121) -/
  | requestDecode
  /-- REPLY_REOFFER: a waiting reply is offered again (R126) -/
  | replyReoffer (p : PortId)
  /-- IDENT (R131) -/
  | ident (words : Nat)
  /-- SELECT (R127) -/
  | select
  /-- READ (R128) -/
  | read (words : Nat)
  /-- WRITE (R129) -/
  | write
  /-- PORT_OFFLINE: a WRITE that takes a port OFFLINE (R21, entry 6) -/
  | portOffline (p : PortId)
  /-- PORT_ONLINE: a WRITE that takes a port ONLINE (R22, entry 6) -/
  | portOnline (p : PortId)
  /-- GROUP_SET (R132) -/
  | groupSet
  /-- GROUP_CLEAR (R132) -/
  | groupClear
  /-- COUNTERS (R133) -/
  | counters (words : Nat)
  /-- COUNTERS_CLEAR (R168) -/
  | countersClear
  /-- EVENTS_READ (R134) -/
  | eventsRead (words : Nat)
  /-- EVENTS_CLEAR (R174) -/
  | eventsClear
  /-- EVENTS_MASK (R175) -/
  | eventsMask
  /-- CAPTURE_TAKE (R136) -/
  | captureTake
  /-- STORE_SELECT (R137) -/
  | storeSelect
  /-- STORE_READ (R138) -/
  | storeRead (words : Nat)
  /-- STORE_FILL (R138) -/
  | storeFill
  /-- STORE_STAGE (R139) -/
  | storeStage
  /-- STORE_ERASE (R152) -/
  | storeErase
  /-- STORE_WRITE (R154) -/
  | storeWrite
  /-- STORE_STATUS (R141) -/
  | storeStatus
  /-- RESTART (R142) -/
  | restart
  /-- STORE_ERASE_COMPLETE: the 20th tick of an erase (R153) -/
  | storeEraseComplete
  /-- STORE_WRITE_COMPLETE: the 12th tick of a write (R155) -/
  | storeWriteComplete
  /-- START_BIT: a dominant bit read in the idle or the gap (R24, R3) -/
  | startBit (p : PortId)
  /-- END_DELIMITER: the end delimiter of a received frame's slot (R24) -/
  | endDelimiter (p : PortId)
  deriving DecidableEq, Repr

end Sys2Proof
end

