-- ==== Sys2Proof/WellFormed.lean ====
section
/-! DEFINITION. Which operands of a command can occur at all on the part's lines. -/

namespace Sys2Proof

/-- The bytes of a frame before its check, as R7 lays them out: 8 header bytes, 4 more when the tag flag
(bit 4 of byte 6) is set, and as many payload bytes as byte 7 gives, at most 96. -/
def frameLengthOk (bytes : List Byte) : Bool :=
  8 ≤ bytes.length && (bytes.getD 7 0).toNat ≤ 96 &&
    bytes.length == 8 + (if (bytes.getD 6 0).getLsbD 4 then 4 else 0) + (bytes.getD 7 0).toNat

/-- The check on a command's operands: a received frame has the length its header announces (R7, R8), an
out-of-range length byte is 97-255 (R8), a count of bit times or words is not 0, and a hold read within a
tolerance is at most 255 × 64 bit times (R32). Commands without such operands are well formed. -/
def Instr.wellFormed : Instr → Bool
  | .receiveCompletion _ bytes _ => frameLengthOk bytes
  | .lengthOutOfRange _ length => decide (96 < length.toNat)
  | .busIdle _ bits => decide (0 < bits)
  | .transmitOutcome _ (.claimed hold _ _) => decide (hold ≤ 255 * 64)
  | .transmitOutcome _ .unclaimed => true
  | .ident words => decide (0 < words)
  | .read words => decide (0 < words)
  | .counters words => decide (0 < words)
  | .eventsRead words => decide (0 < words)
  | .storeRead words => decide (0 < words)
  | .powerOnReset => true
  | .lineReset => true
  | .resetRelease => true
  | .bootPageLoad => true
  | .bootLoadEnd => true
  | .requestReset => true
  | .tick => true
  | .lineFaultChange _ _ _ => true
  | .linkUp _ => true
  | .linkDown _ => true
  | .symbolError _ => true
  | .pauseRx _ => true
  | .holdRetest _ => true
  | .holdExpiry _ => true
  | .pauseExpiry _ => true
  | .transmitStart _ _ => true
  | .arbLost _ => true
  | .collision _ => true
  | .holdBeyondTolerance _ => true
  | .requestDecode => true
  | .replyReoffer _ => true
  | .select => true
  | .write => true
  | .portOffline _ => true
  | .portOnline _ => true
  | .groupSet => true
  | .groupClear => true
  | .countersClear => true
  | .eventsClear => true
  | .eventsMask => true
  | .captureTake => true
  | .storeSelect => true
  | .storeFill => true
  | .storeStage => true
  | .storeErase => true
  | .storeWrite => true
  | .storeStatus => true
  | .restart => true
  | .storeEraseComplete => true
  | .storeWriteComplete => true
  | .startBit _ => true
  | .endDelimiter _ => true

end Sys2Proof
end

