-- ==== Sys2Proof/Machine/State.lean ====
section
/-! DEFINITION. The state of the block, its reset, and the reasons a step could stop (it has none of its own). -/

namespace Sys2Proof.Machine

/-- A frame without its check (R7, R46). The tag flag is whether a tag is present, and the length byte is the
number of payload bytes (entry 17). -/
structure Frame where
  dest : Word
  src : Word
  service : Word
  /-- the three kind bits; 5, 6 and 7 can be received and are illegal (R8) -/
  kind : BitVec 3
  hop : BitVec 3
  spare : Bool
  tag : Option (BitVec 32)
  payload : List Byte
  deriving DecidableEq, Repr

/-- Where a buffer's frame came from (R46). -/
inductive Origin where
  | claimed
  | request
  | reply
  | notice
  deriving DecidableEq, Repr

/-- A pool buffer that holds a frame, with its record (R46). -/
structure PoolBuffer where
  frame : Frame
  ingress : PortId
  origin : Origin
  /-- a pending restart waits for the end of this reply (R143; the model's own mark, entry 23) -/
  awaited : Bool
  deriving DecidableEq, Repr

/-- An entry of an egress queue: the buffer and its age in ms (R53, R54). -/
structure QueueEntry where
  buf : PoolBuffer
  age : Nat
  deriving DecidableEq, Repr

/-- A port's view of the line (R3), with the count of consecutive recessive bit times: in the gap and
resynchronising towards 11, and while idle since the view became idle (R29). -/
inductive LineView where
  | inFrame
  | inSlot
  | gap (recessive : Nat)
  | idle (recessive : Nat)
  | resync (recessive : Nat)
  deriving DecidableEq, Repr

/-- The port states of R19; ONLINE has the substates LINK_DOWN and ACTIVE. -/
inductive PortState where
  | starting
  | offline
  | linkDown
  | active
  deriving DecidableEq, Repr

/-- The receive states of R24. -/
inductive RxState where
  | rIdle
  | rFrame
  | rSlot
  deriving DecidableEq, Repr

/-- The responses of R13. -/
inductive Response where
  | ack
  | nakBusy
  | nakRefuse
  deriving DecidableEq, Repr

/-- A port's part in the slot of a frame it received (R24): non-claimant, claimant with its response, or
HOLDING with the armed hold timer in bit times (R27) and whether a re-test is prompted (R87). -/
inductive SlotRole where
  | nonClaimant
  | answered (r : Response)
  | holding (timer : Nat) (retest : Bool)
  deriving DecidableEq, Repr

/-- The transmit states of R29. -/
inductive TxState where
  | tIdle
  | tWaitIdle
  | tArb
  | tSend
  | tSlot
  deriving DecidableEq, Repr

/-- The transmit slot (R29): empty, a pool frame, or the port's own PAUSE frame. -/
inductive TxSlot where
  | empty
  | pool (b : PoolBuffer)
  | pause (f : Frame)
  deriving DecidableEq, Repr

/-- What one attempt sends: the bytes, the check over them (R97, R98), and the line bits from the start bit
to the last bit of the check with their stuff bits (R5; true is recessive). -/
structure Attempt where
  bytes : List Byte
  check : Word
  lineBits : List Bool
  deriving DecidableEq, Repr

/-- The pause state (R36): RUNNING, or PAUSED for so many bit times after the end delimiter that set it. The
model counts no bit times: PAUSE_EXPIRY is the end of the pause (entry 3). -/
inductive PauseState where
  | running
  | paused (bits : Nat)
  deriving DecidableEq, Repr

/-- The staging buffer: the frame and the check as read (R24). -/
structure Staged where
  frame : Frame
  check : Word
  deriving DecidableEq, Repr

/-- The paths of R65. -/
inductive Path where
  | pause
  | management
  | route
  | default
  deriving DecidableEq, Repr

/-- The actions of R70 and R65. -/
inductive Action where
  | forward
  | refuse
  | ignore
  | divert
  deriving DecidableEq, Repr

/-- The two queues of a port. -/
inductive QueueName where
  | urgent
  | normal
  deriving DecidableEq, Repr

/-- The tag operations of R70. -/
inductive TagOp where
  | none
  | insert
  | strip
  deriving DecidableEq, Repr

/-- The meter modes of R102. -/
inductive MeterMode where
  | drop
  | hold
  | pause
  | mark
  deriving DecidableEq, Repr

/-- The two own addresses (R67). -/
inductive OwnAddress where
  | one
  | two
  deriving DecidableEq, Repr

/-- The access levels of R42. -/
inductive Access where
  | none
  | read
  | full
  deriving DecidableEq, Repr

/-- The outcome field of the decision record (R65). -/
inductive Decision where
  | silence
  | answer (r : Response)
  | holding
  deriving DecidableEq, Repr

/-- The decision record of R65, with the access level read at receive completion (R118) and the mark of a
non-conforming report (R107). A field that R65 gives only to other paths holds a value that no step reads. -/
structure DecisionRecord where
  path : Path
  own : Option OwnAddress
  access : Access
  entry : Option Nat
  action : Option Action
  queue : Option QueueName
  rewrite : Option Word
  tagOp : TagOp
  tagValue : BitVec 32
  meter : Option Nat
  bypass : Bool
  byteCount : Nat
  /-- the meter's enabled flag and mode, read at the start of a hold (R86) -/
  treatment : Option (Bool × MeterMode)
  outcome : Decision
  reported : Bool
  deriving DecidableEq, Repr

/-- PORT words 0-6 of one port (R42, R185). -/
structure PortWords where
  control : Word
  holdLimit : Word
  holdTolerance : Word
  retryLimit : Word
  ageLimit : Word
  debounce : Word
  pauseCount : Word
  deriving DecidableEq, Repr

/-- The reset values of R42 as the words of R185. -/
def PortWords.reset : PortId → PortWords
  | .a => ⟨0x9200, 16, 32, 3, 2000, 10, 0⟩
  | .b => ⟨0x9100, 16, 32, 3, 2000, 10, 0⟩

/-- One segment port: its settings, its link supervisor (R40, R41), its receive side (R24 to R28), its
transmit side (R29 to R35), its pause (R36 to R39) and its egress queues (R53). -/
structure Port where
  words : PortWords
  state : PortState
  noBias : Bool
  stuckDominant : Bool
  linkUp : Bool
  linkCount : Nat
  /-- the last tick found a change of the link level due (R41, entry 24) -/
  linkDue : Bool
  view : LineView
  rx : RxState
  role : SlotRole
  staging : Option Staged
  record : Option DecisionRecord
  slot : TxSlot
  tx : TxState
  attempts : Nat
  sending : Option Attempt
  /-- the hold tolerance in units, once read at the claim bit of the attempt (R32) -/
  tolerance : Option Nat
  /-- the abort pattern the port drives after a collision (R11, R31; true is recessive), until the line is
  released (entry 33) -/
  abort : List Bool
  pause : PauseState
  pendingPause : Bool
  urgent : List QueueEntry
  normal : List QueueEntry
  deriving DecidableEq, Repr

/-- A port after a reset (R23, R64): STARTING, with nothing in it. -/
def Port.reset (p : PortId) : Port where
  words := PortWords.reset p
  state := .starting
  noBias := false
  stuckDominant := false
  linkUp := false
  linkCount := 0
  linkDue := false
  view := .resync 0
  rx := .rIdle
  role := .nonClaimant
  staging := none
  record := none
  slot := .empty
  tx := .tIdle
  attempts := 0
  sending := none
  tolerance := none
  abort := []
  pause := .running
  pendingPause := false
  urgent := []
  normal := []

/-- The 11 words of the GENERAL table (R186). -/
structure General where
  own1Value : Word
  own1Mask : Word
  own2Value : Word
  own2Mask : Word
  enables : Word
  noticeControl : Word
  noticeTarget : Word
  mask0 : Word
  mask1 : Word
  edgeSelect : Word
  pool : Word
  deriving DecidableEq, Repr

/-- The reset values of R186. -/
def General.reset : General :=
  ⟨0x7F00, 0xFFFF, 0x0000, 0xFFFF, 0x0001, 0x0000, 0x0000, 0xFFFF, 0xFFFF, 0x0155, 0x0004⟩

/-- The four words of a meter (R102, R187). -/
structure Meter where
  control : Word
  rate : Word
  burst : Word
  credit : Word
  deriving DecidableEq, Repr

/-- The reset words of every meter (R116, R187). -/
def Meter.reset : Meter :=
  ⟨0, 0, 1, 1⟩

/-- The states of an agent queue entry (R118). -/
inductive EntryState where
  | waiting
  | executing
  | replyWait
  deriving DecidableEq, Repr

/-- An entry of the agent queue (R118). Its ingress port is its buffer's. `offerDue` says that an event of
R126 has prompted a re-offer (entry 4). -/
structure AgentEntry where
  buf : PoolBuffer
  own : OwnAddress
  access : Access
  state : EntryState
  offerDue : Bool
  deriving DecidableEq, Repr

/-- The operations of a request with their operands as the payload writes them (R124, R182). -/
inductive Op where
  | ident
  | select (table : Byte) (index : Word)
  | read (n : Nat)
  | write (words : List Word)
  | groupSet (port : Byte) (bins : List Byte)
  | groupClear (port : Byte) (bins : List Byte)
  | counters (block : Byte)
  | countersClear (block : Byte)
  | eventsRead
  | eventsClear (w0 w1 : Word)
  | eventsMask (w0 w1 : Word)
  | captureTake
  | storeSelect (page word : Byte)
  | storeRead (n : Nat)
  | storeFill (words : List Word)
  | storeStage
  | storeErase
  | storeWrite
  | storeStatus
  | restart
  deriving DecidableEq, Repr

/-- A request under execution (R119, R120, R125): whether its decode is over, its tag and operation count,
the operations still to run (the first is the current one), the result bytes so far, the words the current
reading operation has taken, and the words counted so far. -/
structure Execution where
  decoded : Bool
  tag : Byte
  count : Nat
  ops : List Op
  results : List Byte
  taken : List Word
  words : Nat
  deriving DecidableEq, Repr

/-- The restart-pending state (R142, R143); `due` once its reply has ended or is discarded. -/
inductive RestartState where
  | none
  | pending
  | due
  deriving DecidableEq, Repr

/-- The tables behind the window (R127). -/
inductive Table where
  | port
  | general
  | group
  | meter
  | route
  | counters
  | events
  deriving DecidableEq, Repr

/-- The page states of R147. -/
inductive PageState where
  | erased
  | written
  | torn
  deriving DecidableEq, Repr

/-- A store page: its state and its 16 words (R147). -/
structure Page where
  state : PageState
  words : List Word
  deriving DecidableEq, Repr

/-- The two operations of the in-flight record and of the last completion (R149). -/
inductive StoreOp where
  | erase
  | write
  deriving DecidableEq, Repr

/-- The store states of R149. -/
inductive StoreState where
  | sIdle
  | sErasing
  | sWriting
  deriving DecidableEq, Repr

/-- A word of the page buffer with its fill mark (R151). -/
structure BufferWord where
  value : Word
  marked : Bool
  deriving DecidableEq, Repr

/-- The Table Store (R147 to R151). -/
structure Store where
  pages : List Page
  inFlight : Option (StoreOp × Nat)
  state : StoreState
  timer : Nat
  last : Option (StoreOp × Nat)
  page : Nat
  word : Nat
  buffer : List BufferWord
  deriving DecidableEq, Repr

/-- The cleared page buffer (R151). -/
def Store.clearBuffer : List BufferWord :=
  List.replicate 16 ⟨0, false⟩

/-- Page 0 as it leaves manufacture (R148). -/
def Store.identityPage : Page :=
  ⟨.written, [Config.serialWord 0, Config.serialWord 1, Config.serialWord 2, Config.serialWord 3] ++
    List.replicate 12 0⟩

/-- The store as it leaves manufacture (R147, R148), with what every reset leaves (R160). A stopped store timer
holds 0 (entry 32). -/
def Store.manufactured : Store where
  pages := Store.identityPage :: List.replicate 63 ⟨.erased, List.replicate 16 0⟩
  inFlight := none
  state := .sIdle
  timer := 0
  last := none
  page := 0
  word := 0
  buffer := Store.clearBuffer

/-- The level history of the five level conditions (R169). -/
structure Levels where
  linkA : Bool
  linkB : Bool
  poolLow : Bool
  capturePending : Bool
  storeBusy : Bool
  deriving DecidableEq, Repr

/-- The Event Monitor's own state (R169); its masks and edge selects are GENERAL words. -/
structure Monitor where
  flags0 : Word
  flags1 : Word
  history : Levels
  alert : Bool
  deriving DecidableEq, Repr

/-- The start causes of R159. -/
inductive StartCause where
  | power
  | line
  | request
  deriving DecidableEq, Repr

/-- Held in reset, in the Boot Load with the next page to load (56 when only the end is left), or running
(R159, R162, R165). -/
inductive Phase where
  | held
  | loading (next : Nat)
  | running
  deriving DecidableEq, Repr

/-- Everything the spec gives the part. -/
structure Gateway where
  phase : Phase
  loadFault : Bool
  startCause : StartCause
  portA : Port
  portB : Port
  free : Nat
  general : General
  group : List Word
  meters : List Meter
  route : List Word
  counters : List Word
  agentQueue : List AgentEntry
  exec : Option Execution
  restart : RestartState
  windowTable : Table
  windowIndex : Nat
  capture : List PoolBuffer
  store : Store
  monitor : Monitor
  deriving DecidableEq, Repr

/-- The machine: the commands that wait, first in first out, and the part. -/
structure State where
  pending : List Instr
  gw : Gateway
  deriving DecidableEq, Repr

/-- The part right after a power-on reset of a part as manufactured (R23, R64, R70, R81, R116, R146, R160,
R167, R169), still held (entry 13). -/
def Gateway.reset : Gateway where
  phase := .held
  loadFault := false
  startCause := .power
  portA := Port.reset .a
  portB := Port.reset .b
  free := 32
  general := General.reset
  group := List.replicate 8 0
  meters := List.replicate 16 Meter.reset
  route := List.replicate 768 0
  counters := List.replicate 48 0
  agentQueue := []
  exec := none
  restart := .none
  windowTable := .port
  windowIndex := 0
  capture := []
  store := Store.manufactured
  monitor := ⟨0, 0, ⟨false, false, false, false, false⟩, false⟩

/-- The machine right after reset, with no command waiting. -/
def State.reset : State where
  pending := []
  gw := Gateway.reset

/-- The reasons a step could end in a fault. The block has none: line faults, bad frames and failed
operations are part of its behaviour (R25, R40, R123). -/
inductive Fault where
  /-- raised by no command; safe -/
  | unused
  deriving DecidableEq, Repr

/-- The reasons a step could be refused. -/
inductive Refusal where
  /-- raised by an arm of exec whose command has no meaning yet; safe -/
  | notModelled (mnemonic : String)
  deriving DecidableEq, Repr

end Sys2Proof.Machine
end

