-- ==== Sys2Proof/Machine/Bits.lean ====
section
/-! DEFINITION. Byte order, bit fields and the fixed limits of the part. -/

namespace Sys2Proof.Machine

/-- The high byte of a word, sent first (R7, R182). -/
def highByte (w : Word) : Byte :=
  w.extractLsb' 8 8

/-- The low byte of a word. -/
def lowByte (w : Word) : Byte :=
  w.extractLsb' 0 8

/-- A word from its bytes, high byte first (R180, R182). -/
def wordOf (hi lo : Byte) : Word :=
  hi ++ lo

/-- A word as two bytes on the wire. -/
def wordBytes (w : Word) : List Byte :=
  [highByte w, lowByte w]

/-- Several words as bytes on the wire (R184). -/
def wordsBytes (ws : List Word) : List Byte :=
  ws.flatMap wordBytes

/-- Bits `low` to `low + n - 1` of a word as a number. -/
def field (w : Word) (low n : Nat) : Nat :=
  (w.toNat / 2 ^ low) % 2 ^ n

/-- A word holding a number in bits `low` upward. -/
def atBit (n low : Nat) : Word :=
  BitVec.ofNat 16 (n * 2 ^ low)

/-- One bit of a word as a number, for a flag at bit `low`. -/
def flagBit (b : Bool) (low : Nat) : Word :=
  if b then atBit 1 low else 0

/-- Comparison under a mask: a mask bit at 1 takes part (00, Conventions; R67, R74). -/
def maskedEq (value mask w : Word) : Bool :=
  (w &&& mask) == (value &&& mask)

/-- The words of a byte list, two bytes a word (R182). -/
def bytesWords : List Byte → List Word
  | hi :: lo :: rest => wordOf hi lo :: bytesWords rest
  | _ => []

/-- R46: the pool holds 32 buffers. -/
def poolSize : Nat := 32

/-- R53: a port's queues and slot hold at most 24 pool frames. -/
def egressCap : Nat := 24

/-- R118: the agent queue holds at most 2 entries. -/
def agentCap : Nat := 2

/-- R135: the capture queue holds at most 4 frames. -/
def captureCap : Nat := 4

/-- R125: a reply payload holds at most 96 bytes. -/
def replyCap : Nat := 96

end Sys2Proof.Machine
end

