-- ==== Sys2Proof/Machine/Frame.lean ====
section
/-! DEFINITION. Frames as bytes (R7, R180), the check (R9), the judgement of R8, and the frames the part builds. -/

namespace Sys2Proof.Machine

/-- The kind codes of R180. -/
def kindData : BitVec 3 := 0
def kindRequest : BitVec 3 := 1
def kindReply : BitVec 3 := 2
def kindPause : BitVec 3 := 3
def kindNotice : BitVec 3 := 4

/-- The all-segment address (R7). -/
def allSegment : Word := 0xFFFF

/-- The group flag of an address (R7, R180). -/
def isGroup (address : Word) : Bool :=
  address.getLsbD 15

/-- An own address as a source: sent with bit 15 as 0 (R39, R99, R100). -/
def asSource (address : Word) : Word :=
  address &&& 0x7FFF

/-- The control byte: kind, tag flag, hop count, spare bit (R180). -/
def Frame.controlByte (f : Frame) : Byte :=
  f.kind ++ BitVec.ofBool f.tag.isSome ++ f.hop ++ BitVec.ofBool f.spare

/-- The length byte: the number of payload bytes (R180). -/
def Frame.lengthByte (f : Frame) : Byte :=
  BitVec.ofNat 8 f.payload.length

/-- The eight header bytes (R180). -/
def Frame.header (f : Frame) : List Byte :=
  wordBytes f.dest ++ wordBytes f.src ++ wordBytes f.service ++ [f.controlByte, f.lengthByte]

/-- The four tag bytes when the frame carries a tag, high word first (R180). -/
def Frame.tagBytes (f : Frame) : List Byte :=
  match f.tag with
  | none => []
  | some t => wordBytes (t.extractLsb' 16 16) ++ wordBytes (t.extractLsb' 0 16)

/-- The frame's bytes before the check, in the order sent (R7). -/
def Frame.bytes (f : Frame) : List Byte :=
  f.header ++ f.tagBytes ++ f.payload

/-- The length in bytes before the check (R96). -/
def Frame.byteCount (f : Frame) : Nat :=
  8 + (if f.tag.isSome then 4 else 0) + f.payload.length

/-- The payload is no longer than the bus allows (R7). -/
def Frame.fits (f : Frame) : Bool :=
  decide (f.payload.length ≤ 96)

/-- The frame a receiver reads from the bytes before the check; none when they are not of the length the
header announces (R7, R8, R180). -/
def Frame.ofBytes (bytes : List Byte) : Option Frame :=
  if frameLengthOk bytes then
    let control := bytes.getD 6 0
    let tagged := control.getLsbD 4
    some
      { dest := wordOf (bytes.getD 0 0) (bytes.getD 1 0)
        src := wordOf (bytes.getD 2 0) (bytes.getD 3 0)
        service := wordOf (bytes.getD 4 0) (bytes.getD 5 0)
        kind := control.extractLsb' 5 3
        hop := control.extractLsb' 1 3
        spare := control.getLsbD 0
        tag :=
          if tagged then
            some (wordOf (bytes.getD 8 0) (bytes.getD 9 0) ++ wordOf (bytes.getD 10 0) (bytes.getD 11 0))
          else none
        payload := bytes.drop (if tagged then 12 else 8) }
  else none

/-- One covered bit through the check register (R9). -/
def crcBit (reg : Word) (bit : Bool) : Word :=
  let shifted := reg <<< 1
  if reg.getLsbD 15 != bit then shifted ^^^ 0x1021 else shifted

/-- The bits of a byte, most significant first (R7). -/
def byteBits (b : Byte) : List Bool :=
  [b.getLsbD 7, b.getLsbD 6, b.getLsbD 5, b.getLsbD 4, b.getLsbD 3, b.getLsbD 2, b.getLsbD 1, b.getLsbD 0]

/-- The check over bytes: a register of all ones, generator 0x1021, no inversion (R9). -/
def crc (bytes : List Byte) : Word :=
  (bytes.flatMap byteBits).foldl crcBit 0xFFFF

/-- The fault classes a receiver gives at receive completion (R8). -/
inductive Judgement where
  | good
  | checkError
  | illegal
  deriving DecidableEq, Repr

/-- Contents that make a format error although the check matches (R8, third point; R17). -/
def Frame.illegal (f : Frame) : Bool :=
  decide (4 < f.kind.toNat) || isGroup f.src ||
    (f.kind == kindPause && (f.dest != allSegment || f.payload.length != 2 || f.tag.isSome))

/-- R8: a check error takes precedence over illegal contents. -/
def Frame.judge (f : Frame) (check : Word) : Judgement :=
  if crc f.bytes != check then .checkError
  else if f.illegal then .illegal
  else .good

/-- The pause count of a PAUSE payload, high byte first (R17, R181). -/
def Frame.pauseCount (f : Frame) : Nat :=
  (wordOf (f.payload.getD 0 0) (f.payload.getD 1 0)).toNat

/-- The port's own PAUSE frame (R39). -/
def Frame.pauseOf (own1 count : Word) : Frame where
  dest := allSegment
  src := asSource own1
  service := 0
  kind := kindPause
  hop := 7
  spare := false
  tag := none
  payload := wordBytes count

/-- The reply to a request frame (R99). -/
def Frame.replyTo (request : Frame) (own : Word) (payload : List Byte) : Frame where
  dest := request.src
  src := asSource own
  service := request.service
  kind := kindReply
  hop := 7
  spare := false
  tag := none
  payload := payload

/-- A NOTICE frame (R100). -/
def Frame.noticeOf (target own1 flags0 flags1 : Word) : Frame where
  dest := target
  src := asSource own1
  service := 0
  kind := kindNotice
  hop := 7
  spare := false
  tag := none
  payload := wordBytes flags0 ++ wordBytes flags1

end Sys2Proof.Machine
end

