-- ==== Sys2Proof/Machine/Line.lean ====
section
/-! DEFINITION. The bits of a frame on the line and their stuffing (R5, R6), the abort pattern (R11), and the
response bits of the acknowledge slot (R13). -/

namespace Sys2Proof.Machine

/-- Stuffing from a run of `run` bits equal to `last`: after every run of five equal bits the opposite bit is
inserted, and it is the first bit of the next run (R5). -/
def stuffFrom (last : Bool) (run : Nat) : List Bool → List Bool
  | [] => []
  | b :: bs =>
    if (if b = last then run + 1 else 1) = 5 then b :: (!b) :: stuffFrom (!b) 1 bs
    else b :: stuffFrom b (if b = last then run + 1 else 1) bs

/-- A frame's bits with their stuff bits, from the start bit on (R5). -/
def stuff (bits : List Bool) : List Bool :=
  stuffFrom true 0 bits

/-- A receiver's reading of stuffed bits from a run of `run` bits equal to `last`: the bit after a run of
five is dropped, and a sixth equal bit is a symbol error, none (R5, R6). -/
def destuffFrom (last : Bool) (run : Nat) : List Bool → Option (List Bool)
  | [] => some []
  | b :: bs =>
    if run = 5 then
      if b = last then none else destuffFrom b 1 bs
    else (destuffFrom b (if b = last then run + 1 else 1) bs).map (b :: ·)

/-- The frame bits a receiver reads from the line, or none at a symbol error (R5, R6). -/
def destuff (bits : List Bool) : Option (List Bool) :=
  destuffFrom true 0 bits

/-- The bits of an attempt before stuffing: the dominant start bit, the bytes and the check, most significant
bits first (R4, R7, R9). A dominant bit is 0, since the lowest arbitration field wins (R10). -/
def frameBits (bytes : List Byte) (check : Word) : List Bool :=
  false :: (bytes.flatMap byteBits ++ (wordBytes check).flatMap byteBits)

/-- What an attempt sends for these bytes: a new check over them and the stuffed line bits (R97, R98). -/
def Attempt.of (bytes : List Byte) : Attempt where
  bytes := bytes
  check := crc bytes
  lineBits := stuff (frameBits bytes (crc bytes))

/-- What a sender drives after a collision: seven dominant bits (R11, R31). -/
def abortPattern : List Bool :=
  List.replicate 7 false

/-! ## The response bits R1 and R2 (R13); here true is dominant, as in `SlotRead` -/

/-- The levels of R1 and R2 with which a claimant drives its response (R13). -/
def Response.levels : Response → Bool × Bool
  | .ack => (true, true)
  | .nakBusy => (true, false)
  | .nakRefuse => (false, true)

/-- The levels a port drives in R1 and R2 by its part in the slot: its response as a claimant, and neither bit
as a non-claimant (R12, R28). A hold that goes on has not come to them (R27). -/
def SlotRole.levels : SlotRole → Bool × Bool
  | .answered r => r.levels
  | .nonClaimant => (false, false)
  | .holding _ _ => (false, false)

/-- What the line reads in R1 and R2 when several nodes drive them: dominant where one does (R1, R13). -/
def wiredLevels (driven : List (Bool × Bool)) : Bool × Bool :=
  (driven.any Prod.fst, driven.any Prod.snd)

end Sys2Proof.Machine
end

