-- ==== Sys2Proof/Machine/Operands.lean ====
section
/-! DEFINITION. The words of the seven tables and their fields (R185 to R189), and the operations a request's
payload carries (R121, R182). -/

namespace Sys2Proof.Machine

/-! ## PORT words (R42, R185) -/

/-- Word 0 bit 15: the mode field is ONLINE. -/
def PortWords.modeOnline (w : PortWords) : Bool :=
  w.control.getLsbD 15

/-- The bit-rate code of a word 0. -/
def rateCode (control : Word) : Nat :=
  field control 12 2

/-- The bit rate in kbit/s (R2, R185). -/
def PortWords.kbits (w : PortWords) : Nat :=
  125 * 2 ^ rateCode w.control

/-- The access level of word 0; code 3 is never held. -/
def PortWords.access (w : PortWords) : Access :=
  match field w.control 8 2 with
  | 1 => .read
  | 2 => .full
  | _ => .none

/-- The default action of word 0; code 3 is never held. -/
def PortWords.defaultAction (w : PortWords) : Action :=
  match field w.control 4 2 with
  | 1 => .forward
  | 2 => .refuse
  | _ => .ignore

/-- The strip flag of word 0. -/
def PortWords.strip (w : PortWords) : Bool :=
  w.control.getLsbD 0

/-- PORT words 0-6 by number. -/
def PortWords.get (w : PortWords) : Nat → Word
  | 0 => w.control
  | 1 => w.holdLimit
  | 2 => w.holdTolerance
  | 3 => w.retryLimit
  | 4 => w.ageLimit
  | 5 => w.debounce
  | _ => w.pauseCount

/-- The bits of PORT word `k` that belong to a setting; the others are ignored and read 0 (R43, R185). -/
def portMask : Nat → Word
  | 0 => 0xB331
  | 1 => 0x0FFF
  | 2 => 0x0FFF
  | 3 => 0x0FFF
  | 5 => 0x0FFF
  | _ => 0xFFFF

/-- PORT word `k` (0-6) written; word 7 takes part in no write or load (R44). -/
def PortWords.set (w : PortWords) (k : Nat) (v : Word) : PortWords :=
  let v := v &&& portMask k
  match k with
  | 0 => { w with control := v }
  | 1 => { w with holdLimit := v }
  | 2 => { w with holdTolerance := v }
  | 3 => { w with retryLimit := v }
  | 4 => { w with ageLimit := v }
  | 5 => { w with debounce := v }
  | 6 => { w with pauseCount := v }
  | _ => w

/-- PORT word `k` carries no setting outside its range (R42, R43). -/
def portWordInRange (k : Nat) (v : Word) : Bool :=
  match k with
  | 0 => field v 8 2 != 3 && field v 4 2 != 3
  | 1 => decide (field v 0 12 ≤ 255)
  | 2 => decide (field v 0 12 ≤ 255)
  | 3 => decide (field v 0 12 ≤ 15)
  | 4 => decide (v.toNat ≤ 60000)
  | 5 => decide (1 ≤ field v 0 12) && decide (field v 0 12 ≤ 255)
  | _ => true

/-- PORT word `k` as the Boot Load takes it, setting by setting: a setting out of range takes its reset
value (R45). -/
def loadedPortWord (p : PortId) (k : Nat) (v : Word) : Word :=
  match k with
  | 0 =>
    let reset := (PortWords.reset p).control
    (v &&& 0xB001)
      ||| ((if field v 8 2 = 3 then reset else v) &&& 0x0300)
      ||| ((if field v 4 2 = 3 then reset else v) &&& 0x0030)
  | k => if portWordInRange k v then v &&& portMask k else (PortWords.reset p).get k

/-- The link-fault condition of a port's line (R40). -/
def Port.fault (q : Port) : Bool :=
  q.noBias || q.stuckDominant

/-- The port is ONLINE, in either substate (R19). -/
def Port.online (q : Port) : Bool :=
  q.state = .linkDown || q.state = .active

/-- The number of pool frames in the transmit slot. -/
def TxSlot.poolFrames : TxSlot → Nat
  | .pool _ => 1
  | .empty => 0
  | .pause _ => 0

/-- The egress count (R53). -/
def Port.egressCount (q : Port) : Nat :=
  q.urgent.length + q.normal.length + q.slot.poolFrames

/-- The port is HOLDING a frame (R27). -/
def Port.isHolding (q : Port) : Bool :=
  match q.role with
  | .holding _ _ => true
  | .nonClaimant => false
  | .answered _ => false

/-- The admission test of R55. -/
def Port.admits (q : Port) : Bool :=
  q.online && decide (q.egressCount < egressCap)

/-- Word 7, the status view (R44, R185). -/
def Port.statusWord (q : Port) : Word :=
  (match q.state with
    | .linkDown => atBit 1 14
    | .active => atBit 2 14
    | .offline => 0
    | .starting => 0)
  ||| flagBit q.linkUp 13
  ||| flagBit (q.pause != .running) 12
  ||| flagBit q.pendingPause 11
  ||| (match q.slot with
    | .empty => 0
    | .pool _ => atBit 1 9
    | .pause _ => atBit 2 9)
  ||| flagBit q.isHolding 8
  ||| atBit (q.attempts % 16) 0

/-! ## GENERAL words (R186) -/

/-- GENERAL words 0-10 by index. -/
def General.get (w : General) : Nat → Word
  | 0 => w.own1Value
  | 1 => w.own1Mask
  | 2 => w.own2Value
  | 3 => w.own2Mask
  | 4 => w.enables
  | 5 => w.noticeControl
  | 6 => w.noticeTarget
  | 7 => w.mask0
  | 8 => w.mask1
  | 9 => w.edgeSelect
  | _ => w.pool

/-- GENERAL word `i` written; every bit is kept (R186). -/
def General.set (w : General) (i : Nat) (v : Word) : General :=
  match i with
  | 0 => { w with own1Value := v }
  | 1 => { w with own1Mask := v }
  | 2 => { w with own2Value := v }
  | 3 => { w with own2Mask := v }
  | 4 => { w with enables := v }
  | 5 => { w with noticeControl := v }
  | 6 => { w with noticeTarget := v }
  | 7 => { w with mask0 := v }
  | 8 => { w with mask1 := v }
  | 9 => { w with edgeSelect := v }
  | 10 => { w with pool := v }
  | _ => w

/-- The pool-low mark of a word 10. -/
def poolMarkOf (pool : Word) : Nat :=
  field pool 0 8

/-- The pool-low mark (R50, R186). -/
def General.poolMark (w : General) : Nat :=
  poolMarkOf w.pool

/-- The pool-pause flag (R51, R186). -/
def General.poolPause (w : General) : Bool :=
  w.pool.getLsbD 15

/-- The notice enable flag (R144, R186). -/
def General.noticeEnable (w : General) : Bool :=
  w.noticeControl.getLsbD 15

/-- The notice port (R144, R186). -/
def General.noticePort (w : General) : PortId :=
  if w.noticeControl.getLsbD 0 then .b else .a

/-- The value of an own address (R67). -/
def General.ownValue (w : General) : OwnAddress → Word
  | .one => w.own1Value
  | .two => w.own2Value

/-- The enabled own address a destination matches, own address 1 first (R67). -/
def General.ownMatch (w : General) (dest : Word) : Option OwnAddress :=
  if w.enables.getLsbD 0 && maskedEq w.own1Value w.own1Mask dest then some .one
  else if w.enables.getLsbD 1 && maskedEq w.own2Value w.own2Mask dest then some .two
  else none

/-- A loaded pool word: a mark above 31 takes 4, the other bits stand (R52, R163, R186). -/
def loadedPoolWord (v : Word) : Word :=
  if poolMarkOf v ≤ 31 then v else (v &&& 0xFF00) ||| 4

/-! ## METER words (R102, R187) -/

/-- Bit 15 of the control word. -/
def Meter.enabled (m : Meter) : Bool :=
  m.control.getLsbD 15

/-- Bits 1-0 of the control word. -/
def Meter.mode (m : Meter) : MeterMode :=
  match field m.control 0 2 with
  | 0 => .drop
  | 1 => .hold
  | 2 => .pause
  | _ => .mark

/-- The credit limited to the burst (R102, R115). -/
def Meter.limited (m : Meter) : Meter :=
  if m.burst.toNat < m.credit.toNat then { m with credit := m.burst } else m

/-- The four words of a meter by number. -/
def Meter.get (m : Meter) : Nat → Word
  | 0 => m.control
  | 1 => m.rate
  | 2 => m.burst
  | _ => m.credit

/-- A meter word written; the unused bits of the control word are ignored (R113). -/
def Meter.set (m : Meter) (j : Nat) (v : Word) : Meter :=
  match j with
  | 0 => { m with control := v &&& 0x8003 }
  | 1 => { m with rate := v }
  | 2 => { m with burst := v }
  | 3 => { m with credit := v }
  | _ => m

/-- METER word `j` carries no value refused BAD_OPERAND (R114, R115). -/
def meterWordInRange (j : Nat) (v : Word) : Bool :=
  match j with
  | 1 => decide (v.toNat ≤ 4095)
  | 2 => decide (v.toNat ≠ 0)
  | _ => true

/-- METER word `j` as the Boot Load takes it (R117). -/
def loadedMeterWord (j : Nat) (v : Word) : Word :=
  if meterWordInRange j v then v else Meter.reset.get j

/-! ## ROUTE entries (R70, R188) -/

/-- Word `w` of route entry `e` (R127: index 12e + w). -/
def routeWord (route : List Word) (e w : Nat) : Word :=
  route.getD (12 * e + w) 0

/-- Bit 15 of an entry's word 0. -/
def entryValid (w0 : Word) : Bool :=
  w0.getLsbD 15

/-- Bit 8: source-match present. -/
def entrySourceMatch (w0 : Word) : Bool :=
  w0.getLsbD 8

/-- Bit 7: service-match present. -/
def entryServiceMatch (w0 : Word) : Bool :=
  w0.getLsbD 7

/-- Bit 2: rewrite present. -/
def entryRewrite (w0 : Word) : Bool :=
  w0.getLsbD 2

/-- Bit 1: meter present. -/
def entryMeter (w0 : Word) : Bool :=
  w0.getLsbD 1

/-- Bits 14-13 name the receiving port, or EITHER. -/
def entryIngressOk (w0 : Word) (p : PortId) : Bool :=
  match field w0 13 2, p with
  | 0, .a => true
  | 1, .b => true
  | 2, _ => true
  | _, _ => false

/-- Bits 12-10; codes 4-7 are never met in a valid entry (R71). -/
def entryAction (w0 : Word) : Action :=
  match field w0 10 3 with
  | 0 => .forward
  | 1 => .refuse
  | 2 => .ignore
  | _ => .divert

/-- Bit 9. -/
def entryQueue (w0 : Word) : QueueName :=
  if w0.getLsbD 9 then .urgent else .normal

/-- Bits 6-5 against the frame's tag flag. -/
def entryTagOk (w0 : Word) (tagged : Bool) : Bool :=
  match field w0 5 2 with
  | 0 => true
  | 1 => tagged
  | 2 => !tagged
  | _ => false

/-- Bits 4-3; code 3 is never met in a valid entry (R71). -/
def entryTagOp (w0 : Word) : TagOp :=
  match field w0 3 2 with
  | 1 => .insert
  | 2 => .strip
  | _ => .none

/-- Bits 0-4 and 7-8 that bring words 3-10 into use or out of use (R72): source-match present, service-match
present, tag operation, rewrite present, meter present. -/
def usePattern (w0 : Word) : Word :=
  w0 &&& 0x019E

/-- A well-formed entry (R71, R188). -/
def entryWellFormed (route : List Word) (e : Nat) : Bool :=
  let w0 := routeWord route e 0
  field w0 13 2 != 3 && decide (field w0 10 3 ≤ 3) && field w0 5 2 != 3 && field w0 3 2 != 3 &&
    (!entryMeter w0 || decide ((routeWord route e 10).toNat ≤ 15)) &&
    (!entryRewrite w0 || routeWord route e 7 != 0xFFFF)

/-- Every entry whose valid flag is set is well-formed (R71). -/
def routeWellFormed (route : List Word) : Bool :=
  (List.range 64).all fun e => !entryValid (routeWord route e 0) || entryWellFormed route e

/-- An entry matches a frame received on a port (R74). -/
def entryMatches (route : List Word) (p : PortId) (f : Frame) (e : Nat) : Bool :=
  let w := routeWord route e
  entryValid (w 0) && entryIngressOk (w 0) p && maskedEq (w 1) (w 2) f.dest &&
    (!entrySourceMatch (w 0) || maskedEq (w 3) (w 4) f.src) &&
    (!entryServiceMatch (w 0) || maskedEq (w 5) (w 6) f.service) &&
    entryTagOk (w 0) f.tag.isSome

/-- The lowest-indexed entry that matches (R74). -/
def lookup (route : List Word) (p : PortId) (f : Frame) : Option Nat :=
  (List.range 64).find? (entryMatches route p f)

/-- A winning entry's hit count rises by one, 65535 going to 0 (R75). -/
def bumpHit (route : List Word) (e : Nat) : List Word :=
  route.set (12 * e + 11) (routeWord route e 11 + 1)

/-! ## GROUP bins (R81, R187) -/

/-- The bin of an address (R81). -/
def binOf (address : Word) : Nat :=
  field address 0 6 ^^^ field address 6 6 ^^^ field address 12 4

/-- The GROUP index of a port's first word (R187). -/
def groupBase : PortId → Nat
  | .a => 0
  | .b => 4

/-- A bin of a port's set (R187). -/
def binSet (group : List Word) (p : PortId) (bin : Nat) : Bool :=
  (group.getD (groupBase p + bin / 16) 0).getLsbD (bin % 16)

/-- A bin of a port's set written (R132, R187). -/
def writeBin (p : PortId) (value : Bool) (group : List Word) (bin : Nat) : List Word :=
  let i := groupBase p + bin / 16
  let old := group.getD i 0
  group.set i (if value then old ||| atBit 1 (bin % 16) else old &&& ~~~ atBit 1 (bin % 16))

/-! ## Counters (R167, R189) -/

/-- The counters of a port's block, in the order of the manual's table. -/
inductive PortCounter where
  | rxGood
  | rxCheck
  | rxFormat
  | claimed
  | refused
  | busy
  | held
  | txDone
  | txFailed
  | arbLost
  | aged
  | flushed
  | pauseTx
  | pauseRx
  deriving DecidableEq, Repr

/-- The order of a counter in its block. -/
def PortCounter.order : PortCounter → Nat
  | .rxGood => 0
  | .rxCheck => 1
  | .rxFormat => 2
  | .claimed => 3
  | .refused => 4
  | .busy => 5
  | .held => 6
  | .txDone => 7
  | .txFailed => 8
  | .arbLost => 9
  | .aged => 10
  | .flushed => 11
  | .pauseTx => 12
  | .pauseRx => 13

/-- The device counters. -/
inductive DeviceCounter where
  | agentRequests
  | agentMalformed
  | hopExpired
  | captureTaken
  deriving DecidableEq, Repr

/-- The order of a counter in the device block. -/
def DeviceCounter.order : DeviceCounter → Nat
  | .agentRequests => 0
  | .agentMalformed => 1
  | .hopExpired => 2
  | .captureTaken => 3

/-- The COUNTERS index of a port's counter. -/
def portCounterIndex (p : PortId) (c : PortCounter) : Nat :=
  (match p with
    | .a => 0
    | .b => 14) + c.order

/-- The COUNTERS index of a device counter. -/
def deviceCounterIndex (c : DeviceCounter) : Nat :=
  28 + c.order

/-- The COUNTERS index of a meter's exceed count. -/
def exceedIndex (k : Nat) : Nat :=
  32 + k

/-- The first index of a counter block (R133). -/
def blockBase : Nat → Nat
  | 0 => 0
  | 1 => 14
  | 2 => 28
  | _ => 32

/-- The number of counters of a block (R133). -/
def blockSize : Nat → Nat
  | 0 => 14
  | 1 => 14
  | 2 => 4
  | _ => 16

/-! ## The window's tables (R127) -/

/-- The size of a table in words. -/
def Table.size : Table → Nat
  | .port => 16
  | .general => 11
  | .group => 8
  | .meter => 64
  | .route => 768
  | .counters => 48
  | .events => 6

/-- The table of a table number. -/
def Table.ofCode (code : Nat) : Option Table :=
  match code with
  | 0 => some .port
  | 1 => some .general
  | 2 => some .group
  | 3 => some .meter
  | 4 => some .route
  | 5 => some .counters
  | 6 => some .events
  | _ => none

/-! ## Requests (R121, R182) -/

/-- The first `n` bytes and the rest, when there are so many. -/
def takeBytes (n : Nat) (bytes : List Byte) : Option (List Byte × List Byte) :=
  if n ≤ bytes.length then some (bytes.take n, bytes.drop n) else none

/-- A port operand and a count, then as many bin bytes. -/
def parseBins (mk : Byte → List Byte → Op) (rest : List Byte) : Option (Op × List Byte) :=
  match rest with
  | port :: count :: more =>
    (takeBytes count.toNat more).map fun t => (mk port t.1, t.2)
  | _ => none

/-- A count, then as many words. -/
def parseWords (mk : List Word → Op) (rest : List Byte) : Option (Op × List Byte) :=
  match rest with
  | count :: more =>
    (takeBytes (2 * count.toNat) more).map fun t => (mk (bytesWords t.1), t.2)
  | _ => none

/-- One operand byte. -/
def parseByte (mk : Byte → Op) (rest : List Byte) : Option (Op × List Byte) :=
  match rest with
  | b :: more => some (mk b, more)
  | _ => none

/-- Two operand words. -/
def parseTwoWords (mk : Word → Word → Op) (rest : List Byte) : Option (Op × List Byte) :=
  match rest with
  | a :: b :: c :: d :: more => some (mk (wordOf a b) (wordOf c d), more)
  | _ => none

/-- One operation from its code byte on, with each count as written (R182); none for an unknown code or
when the payload ends too soon (R121). -/
def parseOp (bytes : List Byte) : Option (Op × List Byte) :=
  match bytes with
  | [] => none
  | code :: rest =>
    match code.toNat with
    | 0x01 => some (.ident, rest)
    | 0x02 =>
      match rest with
      | table :: hi :: lo :: more => some (.select table (wordOf hi lo), more)
      | _ => none
    | 0x03 => parseByte (fun n => .read n.toNat) rest
    | 0x04 => parseWords .write rest
    | 0x05 => parseBins .groupSet rest
    | 0x06 => parseBins .groupClear rest
    | 0x07 => parseByte .counters rest
    | 0x08 => parseByte .countersClear rest
    | 0x09 => some (.eventsRead, rest)
    | 0x0A => parseTwoWords .eventsClear rest
    | 0x0B => parseTwoWords .eventsMask rest
    | 0x0C => some (.captureTake, rest)
    | 0x10 =>
      match rest with
      | page :: word :: more => some (.storeSelect page word, more)
      | _ => none
    | 0x11 => parseByte (fun n => .storeRead n.toNat) rest
    | 0x12 => parseWords .storeFill rest
    | 0x13 => some (.storeStage, rest)
    | 0x14 => some (.storeErase, rest)
    | 0x15 => some (.storeWrite, rest)
    | 0x16 => some (.storeStatus, rest)
    | 0x1F => some (.restart, rest)
    | _ => none

/-- So many operations, and nothing after them (R121). -/
def parseOps : Nat → List Byte → Option (List Op)
  | 0, bytes => if bytes.isEmpty then some [] else none
  | n + 1, bytes =>
    match parseOp bytes with
    | none => none
    | some (op, rest) => (parseOps n rest).map (op :: ·)

/-- The operations of a request payload, or none when the request is malformed (R121). -/
def parseRequest (payload : List Byte) : Option (List Op) :=
  match payload with
  | _tag :: count :: rest =>
    if 1 ≤ count.toNat ∧ count.toNat ≤ 16 then parseOps count.toNat rest else none
  | _ => none

/-- The operation codes of R183 that a result can carry. -/
inductive OpStatus where
  | ok
  | short
  | badOperand
  | protectedWord
  | badEntry
  | denied
  | storeInUse
  | notErased
  | empty
  | replyFull
  | skipped
  deriving DecidableEq, Repr

/-- The status codes of R183. -/
def OpStatus.code : OpStatus → Byte
  | .ok => 0x00
  | .short => 0x01
  | .badOperand => 0x10
  | .protectedWord => 0x11
  | .badEntry => 0x12
  | .denied => 0x13
  | .storeInUse => 0x14
  | .notErased => 0x15
  | .empty => 0x16
  | .replyFull => 0x17
  | .skipped => 0x20

/-- The request statuses of R183. -/
inductive RequestStatus where
  | ok
  | malformed
  | restarting
  deriving DecidableEq, Repr

/-- The request status codes of R183. -/
def RequestStatus.code : RequestStatus → Byte
  | .ok => 0x00
  | .malformed => 0x01
  | .restarting => 0x02

end Sys2Proof.Machine
end

