-- ==== Sys2Proof/Machine/Flags.lean ====
section
/-! DEFINITION. The Event Monitor's flags, edges and ALERT level (R169 to R179), without the actions of other
blocks. -/

namespace Sys2Proof.Machine

/-- The 22 sources of R169. -/
inductive Source where
  | link (p : PortId)
  | check (p : PortId)
  | retry (p : PortId)
  | aged (p : PortId)
  | pauseRx (p : PortId)
  | holdExpired (p : PortId)
  | poolLow
  | capturePending
  | storeBusy
  | storeDone
  | storeFault
  | loadFault
  | hopExpired
  | meterExceed
  | requestMalformed
  | noticeFailed
  deriving DecidableEq, Repr

/-- The offset of a port's six flags in flag word 0 (R189). -/
def portFlagBase : PortId → Nat
  | .a => 0
  | .b => 6

/-- The bits of flag word 0 a source latches (R189). -/
def Source.mask0 : Source → Word
  | .link p => atBit 1 (portFlagBase p)
  | .check p => atBit 1 (portFlagBase p + 1)
  | .retry p => atBit 1 (portFlagBase p + 2)
  | .aged p => atBit 1 (portFlagBase p + 3)
  | .pauseRx p => atBit 1 (portFlagBase p + 4)
  | .holdExpired p => atBit 1 (portFlagBase p + 5)
  | .poolLow => 0
  | .capturePending => 0
  | .storeBusy => 0
  | .storeDone => 0
  | .storeFault => 0
  | .loadFault => 0
  | .hopExpired => 0
  | .meterExceed => 0
  | .requestMalformed => 0
  | .noticeFailed => 0

/-- The bits of flag word 1 a source latches (R189). -/
def Source.mask1 : Source → Word
  | .link _ => 0
  | .check _ => 0
  | .retry _ => 0
  | .aged _ => 0
  | .pauseRx _ => 0
  | .holdExpired _ => 0
  | .poolLow => atBit 1 0
  | .capturePending => atBit 1 1
  | .storeBusy => atBit 1 2
  | .storeDone => atBit 1 3
  | .storeFault => atBit 1 4
  | .loadFault => atBit 1 5
  | .hopExpired => atBit 1 6
  | .meterExceed => atBit 1 7
  | .requestMalformed => atBit 1 8
  | .noticeFailed => atBit 1 9

/-- A source's flag is latched; a flag already latched stays so (R170). -/
def Monitor.setFlag (m : Monitor) (src : Source) : Monitor :=
  { m with flags0 := m.flags0 ||| src.mask0, flags1 := m.flags1 ||| src.mask1 }

/-- The five level conditions (R171). -/
inductive Level where
  | link (p : PortId)
  | poolLow
  | capturePending
  | storeBusy
  deriving DecidableEq, Repr

/-- The flag of a level condition. -/
def Level.source : Level → Source
  | .link p => .link p
  | .poolLow => .poolLow
  | .capturePending => .capturePending
  | .storeBusy => .storeBusy

/-- The position of a level condition in the edge-select word and the level word (R189). -/
def Level.place : Level → Nat
  | .link .a => 0
  | .link .b => 1
  | .poolLow => 2
  | .capturePending => 3
  | .storeBusy => 4

/-- The level last handed for a condition (R169). -/
def Levels.get (l : Levels) : Level → Bool
  | .link .a => l.linkA
  | .link .b => l.linkB
  | .poolLow => l.poolLow
  | .capturePending => l.capturePending
  | .storeBusy => l.storeBusy

/-- The level of a condition recorded. -/
def Levels.set (l : Levels) (c : Level) (v : Bool) : Levels :=
  match c with
  | .link .a => { l with linkA := v }
  | .link .b => { l with linkB := v }
  | .poolLow => { l with poolLow := v }
  | .capturePending => { l with capturePending := v }
  | .storeBusy => { l with storeBusy := v }

/-- The edge select latches on this edge (R171): RISE 1, FALL 2, BOTH 3 (R189). -/
def edgeLatches (edgeSelect : Word) (c : Level) (rising : Bool) : Bool :=
  let code := field edgeSelect (2 * c.place) 2
  if rising then code == 1 || code == 3 else code == 2 || code == 3

/-- An evaluation of a level condition (R171): one that differs from the history is an edge, recorded, and
latched when the edge select names it. -/
def Monitor.handLevel (m : Monitor) (edgeSelect : Word) (c : Level) (v : Bool) : Monitor :=
  if m.history.get c = v then m
  else
    let m := { m with history := m.history.set c v }
    if edgeLatches edgeSelect c v then m.setFlag c.source else m

/-- The latched and unmasked flags of word 0 (R175). -/
def Monitor.unmasked0 (m : Monitor) (mask0 : Word) : Word :=
  m.flags0 &&& ~~~ mask0

/-- The latched and unmasked flags of word 1 (R175). -/
def Monitor.unmasked1 (m : Monitor) (mask1 : Word) : Word :=
  m.flags1 &&& ~~~ mask1

/-- At least one latched flag is unmasked (R176). -/
def Monitor.asserts (m : Monitor) (mask0 mask1 : Word) : Bool :=
  m.unmasked0 mask0 != 0 || m.unmasked1 mask1 != 0

/-- EVENTS CLEAR: the listed flags are cleared (R174). -/
def Monitor.clear (m : Monitor) (w0 w1 : Word) : Monitor :=
  { m with flags0 := m.flags0 &&& ~~~ w0, flags1 := m.flags1 &&& ~~~ w1 }

end Sys2Proof.Machine
end

