-- ==== Sys2Proof/Machine/Ops.lean ====
section
/-! DEFINITION. The operations the commands share: ports, counters, the pool, the queues, ALERT and notices,
PAUSE asks, ends of frames, egress selection, and the agent's queue. -/

namespace Sys2Proof.Machine

/-! ## Access -/

/-- A port of the part. -/
def Gateway.port (g : Gateway) : PortId → Port
  | .a => g.portA
  | .b => g.portB

/-- A port replaced. -/
def Gateway.setPort (g : Gateway) (p : PortId) (q : Port) : Gateway :=
  match p with
  | .a => { g with portA := q }
  | .b => { g with portB := q }

/-- A port changed. -/
def Gateway.modPort (g : Gateway) (p : PortId) (f : Port → Port) : Gateway :=
  g.setPort p (f (g.port p))

/-- A counter rises by `n`, 65535 going to 0 (R167). -/
def Gateway.bump (g : Gateway) (i n : Nat) : Gateway :=
  { g with counters := g.counters.set i (g.counters.getD i 0 + BitVec.ofNat 16 n) }

/-- A port counts (R167). -/
def Gateway.count (g : Gateway) (p : PortId) (c : PortCounter) : Gateway :=
  g.bump (portCounterIndex p c) 1

/-- The device counts (R167). -/
def Gateway.countDevice (g : Gateway) (c : DeviceCounter) : Gateway :=
  g.bump (deviceCounterIndex c) 1

/-- The meter of an index. -/
def Gateway.meter (g : Gateway) (k : Nat) : Meter :=
  g.meters.getD k Meter.reset

/-! ## Prompts (R87, R126) -/

/-- A re-test is prompted when the port holds a frame whose record meets `c`. -/
def Port.promptIf (c : DecisionRecord → Bool) (q : Port) : Port :=
  match q.role, q.record with
  | .holding t _, some r => if c r then { q with role := .holding t true } else q
  | _, _ => q

/-- The record is of a FORWARD frame. -/
def DecisionRecord.forwards (r : DecisionRecord) : Bool :=
  r.action = some .forward

/-- Both ports' holds are offered a relief (R87: a buffer returned, R49). -/
def Gateway.promptReturn (g : Gateway) : Gateway :=
  (g.modPort .a (Port.promptIf fun _ => true)).modPort .b (Port.promptIf fun _ => true)

/-- The entry waits with a reply for port `p`. -/
def AgentEntry.waitsOn (p : PortId) (e : AgentEntry) : Bool :=
  e.state = .replyWait && e.buf.ingress = p

/-- The egress count of port `p` has fallen: a FORWARD hold on the other port re-tests (R53, R87), and the
replies waiting for `p` are offered again (R126). -/
def Gateway.promptEgress (g : Gateway) (p : PortId) : Gateway :=
  let g := g.modPort p.other (Port.promptIf DecisionRecord.forwards)
  { g with
    agentQueue := g.agentQueue.map fun e => if e.waitsOn p then { e with offerDue := true } else e }

/-- Port `p` has become ACTIVE: a FORWARD hold on the other port re-tests (R87). -/
def Gateway.promptActive (g : Gateway) (p : PortId) : Gateway :=
  g.modPort p.other (Port.promptIf DecisionRecord.forwards)

/-- An entry has left the agent queue: management holds re-test (R87, R118). -/
def Gateway.promptAgent (g : Gateway) : Gateway :=
  let c : DecisionRecord → Bool := fun r => r.path = .management
  (g.modPort .a (Port.promptIf c)).modPort .b (Port.promptIf c)

/-- A frame has left the capture queue: DIVERT holds re-test (R87, R136). -/
def Gateway.promptCapture (g : Gateway) : Gateway :=
  let c : DecisionRecord → Bool := fun r => r.action = some .divert
  (g.modPort .a (Port.promptIf c)).modPort .b (Port.promptIf c)

/-- The credit of meter `k` was raised by a refill or written: holds that name it re-test (R87). -/
def Gateway.promptMeter (g : Gateway) (k : Nat) : Gateway :=
  let c : DecisionRecord → Bool := fun r => r.forwards && r.meter = some k
  (g.modPort .a (Port.promptIf c)).modPort .b (Port.promptIf c)

/-! ## Flags, PAUSE asks, POOL_LOW, ALERT and notices -/

/-- A source's flag is latched, ALERT not yet re-evaluated (R170). -/
def Gateway.setFlag (g : Gateway) (src : Source) : Gateway :=
  { g with monitor := g.monitor.setFlag src }

/-- A level condition is evaluated, ALERT not yet (R171). -/
def Gateway.handLevel (g : Gateway) (c : Level) (v : Bool) : Gateway :=
  { g with monitor := g.monitor.handLevel g.general.edgeSelect c v }

/-- At least one latched flag is unmasked (R176). -/
def Gateway.asserts (g : Gateway) : Bool :=
  g.monitor.asserts g.general.mask0 g.general.mask1

/-- A PAUSE ask reaches a port (R38). -/
def Port.pauseAsk (q : Port) : Port :=
  if q.online && q.words.pauseCount != 0 then
    match q.slot with
    | .pause _ => q
    | .empty => { q with pendingPause := true }
    | .pool _ => { q with pendingPause := true }
  else q

/-- POOL_LOW is true (R50). -/
def Gateway.poolLow (g : Gateway) : Bool :=
  decide (g.free ≤ g.general.poolMark)

/-- POOL_LOW is re-evaluated (R50), and a rising edge with pool pause set asks both ports (R51). ALERT is
not yet re-evaluated. -/
def Gateway.poolEval (g : Gateway) : Gateway :=
  let rising := g.poolLow && !g.monitor.history.poolLow
  let g' := g.handLevel .poolLow g.poolLow
  if rising && g.general.poolPause then (g'.modPort .a Port.pauseAsk).modPort .b Port.pauseAsk else g'

/-- A buffer joins the tail of a queue with age 0 (R55). -/
def Port.enqueue (q : Port) (name : QueueName) (b : PoolBuffer) : Port :=
  match name with
  | .urgent => { q with urgent := q.urgent ++ [⟨b, 0⟩] }
  | .normal => { q with normal := q.normal ++ [⟨b, 0⟩] }

/-- The NOTICE buffer built from the flags and masks as they stand (R100, R144, R178). -/
def Gateway.noticeBuffer (g : Gateway) : PoolBuffer where
  frame :=
    Frame.noticeOf g.general.noticeTarget g.general.own1Value
      (g.monitor.unmasked0 g.general.mask0) (g.monitor.unmasked1 g.general.mask1)
  ingress := g.general.noticePort
  origin := .notice
  awaited := false

/-- The conditions for building a notice (R144). -/
def Gateway.noticeFits (g : Gateway) : Bool :=
  let q := g.port g.general.noticePort
  decide (1 ≤ g.free) && q.state = .active && q.admits

/-- What a rising edge of ALERT asks of the agent (R144, R177, R178). -/
def Gateway.noticeAsk (g : Gateway) : Gateway :=
  if !g.general.noticeEnable then g
  else if g.noticeFits then
    let b := g.noticeBuffer
    let g := { g with free := g.free - 1 }
    (g.modPort b.ingress (·.enqueue .urgent b)).poolEval
  else g.setFlag .noticeFailed

/-- ALERT is re-evaluated (R176), and a rising edge asks for a notice (R177). -/
def Gateway.alertEval (g : Gateway) : Gateway :=
  let raised := g.asserts
  let rising := raised && !g.monitor.alert
  let g := { g with monitor := { g.monitor with alert := raised } }
  if rising then g.noticeAsk else g

/-- An occurrence is handed to the Event Monitor (R170). -/
def Gateway.latch (g : Gateway) (src : Source) : Gateway :=
  (g.setFlag src).alertEval

/-- A level condition is evaluated (R171, R176). -/
def Gateway.evalLevel (g : Gateway) (c : Level) (v : Bool) : Gateway :=
  (g.handLevel c v).alertEval

/-- POOL_LOW is re-evaluated (R50, R51, R176). -/
def Gateway.evalPool (g : Gateway) : Gateway :=
  g.poolEval.alertEval

/-- CAPTURE_PENDING is re-evaluated (R135). -/
def Gateway.evalCapture (g : Gateway) : Gateway :=
  g.evalLevel .capturePending (!g.capture.isEmpty)

/-- STORE_BUSY is re-evaluated (R149). -/
def Gateway.evalStoreBusy (g : Gateway) : Gateway :=
  g.evalLevel .storeBusy (g.store.state != .sIdle)

/-! ## Ends of frames (R34, R61) -/

/-- The kinds of end of R61. -/
inductive EndKind where
  | done
  | failed
  | aged
  | flushed
  deriving DecidableEq, Repr

/-- `n` buffers return to the free list, and the holds are offered the relief (R49). POOL_LOW is not yet
re-evaluated. -/
def Gateway.giveBack (g : Gateway) (n : Nat) : Gateway :=
  ({ g with free := g.free + n }).promptReturn

/-- A frame's end is reported to the agent (R61): the reply a restart waits for makes it due (R143), and a
notice that failed or aged latches NOTICE_FAILED (R145). -/
def Gateway.reportEnd (g : Gateway) (b : PoolBuffer) (kind : EndKind) : Gateway :=
  match b.origin with
  | .reply => if b.awaited then { g with restart := .due } else g
  | .notice =>
    match kind with
    | .failed => g.latch .noticeFailed
    | .aged => g.latch .noticeFailed
    | .done => g
    | .flushed => g
  | .claimed => g
  | .request => g

/-- The transmit side emptied (R34). -/
def Port.emptySlot (q : Port) : Port :=
  { q with slot := .empty, tx := .tIdle, attempts := 0, sending := none, tolerance := none }

/-- A transmission ends (R34): the slot empties, a pool buffer returns, and the end is reported. -/
def Gateway.endTransmission (g : Gateway) (p : PortId) (kind : EndKind) : Gateway :=
  let slot := (g.port p).slot
  let g := g.modPort p Port.emptySlot
  match slot with
  | .pool b => (((g.giveBack 1).promptEgress p).evalPool).reportEnd b kind
  | .empty => g
  | .pause _ => g

/-! ## Egress selection (R57 to R60) -/

/-- A frame placed in the transmit slot (R29, R59). -/
def Port.loadSlot (q : Port) (s : TxSlot) : Port :=
  { q with slot := s, tx := .tWaitIdle, attempts := 0, sending := none, tolerance := none }

/-- The entry is old for the port's age limit (R60). -/
def Port.isOld (q : Port) (e : QueueEntry) : Bool :=
  q.words.ageLimit != 0 && decide (q.words.ageLimit.toNat < e.age)

/-- The head of a queue and its port without it; URGENT is examined first (R58, steps 3 and 4). This is so at every
head: a notice that a discard of step 4 has put into URGENT comes before the next NORMAL head (entry 10). -/
def Port.head (q : Port) : Option (QueueEntry × Port) :=
  match q.urgent, q.normal with
  | e :: rest, _ => some (e, { q with urgent := rest })
  | [], e :: rest => some (e, { q with normal := rest })
  | [], [] => none

/-- An old head is discarded (R60); `q` is the port without it. -/
def Gateway.discardAged (g : Gateway) (p : PortId) (e : QueueEntry) (q : Port) : Gateway :=
  let g := ((g.setPort p q).count p .aged).latch (.aged p)
  (((g.giveBack 1).promptEgress p).evalPool).reportEnd e.buf .aged

/-- Steps 3 to 5 of R58, with at most `fuel` heads examined. -/
def Gateway.selectFrame : Nat → PortId → Gateway → Gateway
  | 0, _, g => g
  | fuel + 1, p, g =>
    match (g.port p).head with
    | none => g
    | some (e, q) =>
      if (g.port p).isOld e then Gateway.selectFrame fuel p (g.discardAged p e q)
      else g.setPort p (q.loadSlot (.pool e.buf))

/-- Step 1 of R58: a pending PAUSE request is taken, and its frame built unless the count is 0 (R39). -/
def Gateway.takePause (g : Gateway) (p : PortId) : Gateway :=
  let q := g.port p
  if q.pendingPause then
    let q := { q with pendingPause := false }
    if q.words.pauseCount = 0 then g.setPort p q
    else g.setPort p (q.loadSlot (.pause (Frame.pauseOf g.general.own1Value q.words.pauseCount)))
  else g

/-- Egress selection of a port (R57, R58), taken only by an ACTIVE port with an empty slot. -/
def Gateway.selectEgress (g : Gateway) (p : PortId) : Gateway :=
  if (g.port p).state = .active ∧ (g.port p).slot = .empty then
    let g := g.takePause p
    if (g.port p).slot = .empty ∧ (g.port p).pause = .running then
      Gateway.selectFrame ((g.port p).urgent.length + (g.port p).normal.length + 2) p g
    else g
  else g

/-- The selections prompted within an event are taken at its end, Port A's first; a selection that raises
ALERT may prompt the other port's again through a notice (entries 10, 12). -/
def Gateway.settle (g : Gateway) : Gateway :=
  (((g.selectEgress .a).selectEgress .b).selectEgress .a).selectEgress .b

/-! ## The agent's queue (R118, R119, R126) -/

/-- The first element that meets `c`, changed. -/
def updateFirst (c : AgentEntry → Bool) (f : AgentEntry → AgentEntry) : List AgentEntry → List AgentEntry
  | [] => []
  | e :: rest => if c e then f e :: rest else e :: updateFirst c f rest

/-- The list without the first element that meets `c`. -/
def removeFirst (c : AgentEntry → Bool) : List AgentEntry → List AgentEntry
  | [] => []
  | e :: rest => if c e then rest else e :: removeFirst c rest

/-- The entry is WAITING. -/
def AgentEntry.isWaiting (e : AgentEntry) : Bool :=
  e.state = .waiting

/-- The entry is EXECUTING. -/
def AgentEntry.isExecuting (e : AgentEntry) : Bool :=
  e.state = .executing

/-- The entry's reply is to be offered again for port `p` (R126). -/
def AgentEntry.offerOn (p : PortId) (e : AgentEntry) : Bool :=
  e.waitsOn p && e.offerDue

/-- The agent is free (R119, R143). -/
def Gateway.agentFree (g : Gateway) : Bool :=
  g.exec.isNone && g.restart == .none

/-- Execution begins for the oldest WAITING entry while the agent is free (R119). -/
def Gateway.beginExecution (g : Gateway) : Gateway :=
  if g.agentFree then
    match g.agentQueue.find? AgentEntry.isWaiting with
    | none => g
    | some _ =>
      { g with
        agentQueue := updateFirst AgentEntry.isWaiting (fun e => { e with state := .executing }) g.agentQueue
        exec := some ⟨false, 0, 0, [], [], [], 0⟩ }.countDevice .agentRequests
  else g

/-- A reply is discarded: its buffer returns with nothing counted, its entry has left the queue, and a
restart that waits for it is due (R49, R126, R143). -/
def Gateway.discardReply (g : Gateway) (b : PoolBuffer) : Gateway :=
  (((g.giveBack 1).promptAgent).evalPool).reportEnd b .flushed

/-- The reply of the first entry that meets `c` is offered to its ingress port (R126). -/
def Gateway.offerReply (c : AgentEntry → Bool) (g : Gateway) : Gateway :=
  match g.agentQueue.find? c with
  | none => g
  | some e =>
    let q := g.port e.buf.ingress
    if q.online then
      if q.admits then
        let g := { g with agentQueue := removeFirst c g.agentQueue }
        (g.modPort e.buf.ingress (·.enqueue .urgent e.buf)).promptAgent
      else
        { g with
          agentQueue := updateFirst c (fun e => { e with state := .replyWait, offerDue := false }) g.agentQueue }
    else ({ g with agentQueue := removeFirst c g.agentQueue }).discardReply e.buf

/-! ## Leaving ACTIVE (R21, R28, R35) -/

/-- A claim in an acknowledge slot ends at once (R28): a held frame and one answered with a NAK are dropped;
the rest of the slot is followed as a non-claimant. -/
def Port.endClaim (q : Port) : Port :=
  match q.role with
  | .nonClaimant => q
  | .answered _ => { q with role := .nonClaimant, staging := none, record := none }
  | .holding _ _ => { q with role := .nonClaimant, staging := none, record := none }

/-- The port is transmitting (R29). -/
def TxState.onLine : TxState → Bool
  | .tArb => true
  | .tSend => true
  | .tSlot => true
  | .tIdle => false
  | .tWaitIdle => false

/-- A transmission under way stops part way (R21, R35): the view resynchronises with a count of zero, the
receive side is R_IDLE, and the frame waits again. -/
def Port.stopSending (q : Port) : Port :=
  if q.tx.onLine then
    { q with view := .resync 0, rx := .rIdle, tx := .tWaitIdle, sending := none, tolerance := none }
  else q

/-- The pool buffers in a port's queues and transmit slot, in order. -/
def Port.buffers (q : Port) : List PoolBuffer :=
  q.urgent.map QueueEntry.buf ++ q.normal.map QueueEntry.buf ++
    (match q.slot with
      | .pool b => [b]
      | .empty => []
      | .pause _ => [])

/-- What is left of a port taken OFFLINE (R21, R63); it drives nothing more (R20). -/
def Port.flushed (q : Port) : Port :=
  { (q.stopSending.endClaim.emptySlot) with
    urgent := [], normal := [], pendingPause := false, pause := .running, state := .offline, abort := [] }

/-- A port is taken OFFLINE (R21, R63), and the replies waiting for it are discarded (R126, entry 21). -/
def Gateway.goOffline (g : Gateway) (p : PortId) : Gateway :=
  let bs := (g.port p).buffers
  let g := (g.modPort p Port.flushed).bump (portCounterIndex p .flushed) bs.length
  let g := if bs.isEmpty then g else (g.giveBack bs.length).promptEgress p
  let g := bs.foldl (fun g b => g.reportEnd b .flushed) g.evalPool
  (g.offerReply (AgentEntry.waitsOn p)).offerReply (AgentEntry.waitsOn p)

/-- An OFFLINE port is taken ONLINE: the substate of its link level (R19, R22). -/
def Gateway.goOnline (g : Gateway) (p : PortId) : Gateway :=
  let g := g.modPort p fun q => { q with state := if q.linkUp then .active else .linkDown }
  if (g.port p).linkUp then g.promptActive p else g

/-! ## Meanings as functions of the part -/

/-- A meaning that never stops: the part changes, the queue of commands does not. -/
def onGateway (f : Gateway → Gateway) (s : State) : Host.Outcome State Fault Refusal :=
  .next { s with gw := f s.gw }

end Sys2Proof.Machine
end

