-- ==== Sys2Proof/Machine/Classifier.lean ====
section
/-! DEFINITION. The Classifier, the Rewrite Unit's copy and the meter check (R65 to R117): what a port decides
for a good frame, at receive completion and at a re-test. -/

namespace Sys2Proof.Machine

/-! ## The decision record (R65, R66, R74, R76) -/

/-- The frame's length as the gateway keeps it after a tag operation (R65, R96). -/
def keptBytes (f : Frame) (op : TagOp) : Nat :=
  let tagged :=
    match op with
    | .none => f.tag.isSome
    | .insert => true
    | .strip => false
  8 + (if tagged then 4 else 0) + f.payload.length

/-- A record with no route fields (R65). -/
def DecisionRecord.bare (path : Path) (access : Access) (f : Frame) : DecisionRecord where
  path := path
  own := none
  access := access
  entry := none
  action := none
  queue := none
  rewrite := none
  tagOp := .none
  tagValue := 0
  meter := none
  bypass := false
  byteCount := keptBytes f .none
  treatment := none
  outcome := .silence
  reported := false

/-- The record of a frame won by route entry `e` (R74). -/
def DecisionRecord.ofEntry (route : List Word) (e : Nat) (access : Access) (f : Frame) : DecisionRecord :=
  let w := routeWord route e
  let op := entryTagOp (w 0)
  { DecisionRecord.bare .route access f with
    entry := some e
    action := some (entryAction (w 0))
    queue := if entryAction (w 0) = .forward then some (entryQueue (w 0)) else none
    rewrite := if entryRewrite (w 0) then some (w 7) else none
    tagOp := op
    tagValue := if op = .insert then w 8 ++ w 9 else 0
    meter := if entryMeter (w 0) then some (w 10).toNat else none
    bypass := (w 0).getLsbD 0
    byteCount := keptBytes f op }

/-- The record of a frame under the default action (R76). -/
def DecisionRecord.ofDefault (action : Action) (access : Access) (f : Frame) : DecisionRecord :=
  { DecisionRecord.bare .default access f with
    action := some action
    queue := if action = .forward then some .normal else none }

/-- The own address that takes a frame as management on a port with this access (R66). -/
def managementMatch (general : General) (access : Access) (f : Frame) : Option OwnAddress :=
  if f.kind = kindRequest ∧ access ≠ .none then general.ownMatch f.dest else none

/-! ## The Rewrite Unit (R91 to R96) -/

/-- The frame as it is written into its buffer: destination, then tag, then hop count (R92). -/
def rewriteFrame (r : DecisionRecord) (f : Frame) : Frame :=
  { f with
    dest := r.rewrite.getD f.dest
    tag :=
      match r.tagOp with
      | .none => f.tag
      | .insert => some r.tagValue
      | .strip => none
    hop := if r.forwards then f.hop - 1 else f.hop }

/-- The destination as it will be transmitted (R81). -/
def DecisionRecord.sentDest (r : DecisionRecord) (f : Frame) : Word :=
  r.rewrite.getD f.dest

/-! ## Carrying a decision out on the receive side (R26, R27) -/

/-- The counter of a response (R26). -/
def Response.counter : Response → PortCounter
  | .ack => .claimed
  | .nakBusy => .busy
  | .nakRefuse => .refused

/-- A NAK is decided: it is counted and will be driven; the staged frame is dropped at the end delimiter
(R26, R77, R89). -/
def Gateway.answerNak (g : Gateway) (p : PortId) (r : DecisionRecord) (resp : Response) : Gateway :=
  (g.modPort p fun q =>
    { q with role := .answered resp, record := some { r with outcome := .answer resp } }).count p resp.counter

/-- ACK is decided: CLAIMED is counted, and the frame has left staging for a buffer (R26, entry 20). -/
def Gateway.answerAck (g : Gateway) (p : PortId) : Gateway :=
  (g.modPort p fun q => { q with role := .answered .ack, record := none, staging := none }).count p .claimed

/-- The meter treatment recorded at the start of a hold of a FORWARD frame that names a meter (R86). -/
def Gateway.treatmentOf (g : Gateway) (r : DecisionRecord) : Option (Bool × MeterMode) :=
  if r.forwards then r.meter.map fun k => ((g.meter k).enabled, (g.meter k).mode) else none

/-- A hold begins: HELD is counted and the timer armed from the hold limit (R27, R86). -/
def Gateway.startHold (g : Gateway) (p : PortId) (r : DecisionRecord) : Gateway :=
  let r := { r with outcome := .holding, treatment := g.treatmentOf r }
  (g.modPort p fun q =>
    { q with role := .holding (64 * q.words.holdLimit.toNat) false, record := some r }).count p .held

/-- HOLDING, or NAK-BUSY at once when the hold limit is 0 (R69, R78, R83, R84). -/
def Gateway.holdOrBusy (g : Gateway) (p : PortId) (r : DecisionRecord) : Gateway :=
  if (g.port p).words.holdLimit = 0 then g.answerNak p r .nakBusy else g.startHold p r

/-! ## Claims -/

/-- A management request is claimed when there is agent room and a free buffer (R69); none otherwise. -/
def Gateway.claimManagement (g : Gateway) (p : PortId) (r : DecisionRecord) (f : Frame) : Option Gateway :=
  if g.agentQueue.length < agentCap ∧ 1 ≤ g.free then
    let entry : AgentEntry :=
      { buf := ⟨f, p, .request, false⟩, own := r.own.getD .one, access := r.access, state := .waiting, offerDue := false }
    let g := { g with free := g.free - 1, agentQueue := g.agentQueue ++ [entry] }
    some ((g.answerAck p).evalPool.beginExecution)
  else none

/-- A DIVERT frame is claimed when there is capture room and the free count is at least 2 (R78, R135). -/
def Gateway.claimDivert (g : Gateway) (p : PortId) (r : DecisionRecord) (f : Frame) : Option Gateway :=
  if 2 ≤ g.free ∧ g.capture.length < captureCap then
    let b : PoolBuffer := ⟨rewriteFrame r f, p, .claimed, false⟩
    let g := { g with free := g.free - 1, capture := g.capture ++ [b] }
    some ((g.answerAck p).evalPool.evalCapture)
  else none

/-- A meter's credit falls by a byte count (R105). -/
def Gateway.debit (g : Gateway) (k n : Nat) : Gateway :=
  let m := g.meter k
  { g with meters := g.meters.set k { m with credit := m.credit - BitVec.ofNat 16 n } }

/-- The claim of a FORWARD frame (R85), steps 2 to 6: the buffer is taken, written and queued, and CLAIMED
counted. POOL_LOW is re-evaluated once the claim stands (entry 11). -/
def Gateway.claimForward (g : Gateway) (p : PortId) (r : DecisionRecord) (f : Frame) (queue : QueueName) :
    Gateway :=
  let g := { g with free := g.free - 1 }
  let g := g.modPort p.other (·.enqueue queue ⟨rewriteFrame r f, p, .claimed, false⟩)
  (g.answerAck p).evalPool

/-- What capacity and meter say of a FORWARD frame (R83, R84). -/
inductive ForwardVerdict where
  | noCapacity
  /-- no meter, or a disabled one -/
  | pass
  /-- conforming on a meter -/
  | conform (k : Nat)
  /-- non-conforming on a meter, with the mode that decides -/
  | exceed (k : Nat) (mode : MeterMode)
  deriving DecidableEq, Repr

/-- The capacity check (R83). -/
def Gateway.capacity (g : Gateway) (p : PortId) : Bool :=
  (g.port p.other).state = .active && decide (2 ≤ g.free) && decide ((g.port p.other).egressCount < egressCap)

/-- Checks 4 and 5 of R79, with the meter's enabled flag and mode as the check reads them (R84, R104). -/
def Gateway.forwardVerdict (g : Gateway) (p : PortId) (r : DecisionRecord)
    (treatment : Option (Bool × MeterMode)) : ForwardVerdict :=
  if g.capacity p then
    match r.meter, treatment with
    | some k, some (true, mode) => if r.byteCount ≤ (g.meter k).credit.toNat then .conform k else .exceed k mode
    | some _, some (false, _) => .pass
    | some _, none => .pass
    | none, _ => .pass
  else .noCapacity

/-- The frame is marked as reported non-conforming in its record, if it still has one. -/
def Port.markReported (q : Port) : Port :=
  { q with record := q.record.map fun r => { r with reported := true } }

/-- A non-conforming frame is reported once: the meter's exceed count rises and METER_EXCEED latches (R107). -/
def Gateway.reportExceed (g : Gateway) (p : PortId) (r : DecisionRecord) (k : Nat) : Gateway :=
  if r.reported then g
  else ((g.modPort p Port.markReported).bump (exceedIndex k) 1).latch .meterExceed

/-- A FORWARD verdict carried out (R85, R108 to R111); `wait` is what a frame that must wait does: hold or
NAK-BUSY at receive completion, and nothing at a re-test. -/
def Gateway.carryForward (g : Gateway) (p : PortId) (r : DecisionRecord) (f : Frame)
    (wait : Gateway → Gateway) : ForwardVerdict → Gateway
  | .noCapacity => wait g
  | .pass => g.claimForward p r f (r.queue.getD .normal)
  | .conform k => (g.debit k r.byteCount).claimForward p r f (r.queue.getD .normal)
  | .exceed k .drop => (g.answerNak p r .nakRefuse).reportExceed p r k
  | .exceed k .hold => (wait g).reportExceed p r k
  | .exceed k .pause => ((g.answerNak p r .nakBusy).modPort p Port.pauseAsk).reportExceed p r k
  | .exceed k .mark => (g.claimForward p r f .normal).reportExceed p r k

/-! ## The decision at receive completion -/

/-- The record stands and the port stays silent (R26, R77). -/
def Gateway.silent (g : Gateway) (p : PortId) (r : DecisionRecord) : Gateway :=
  g.modPort p fun q => { q with record := some { r with outcome := .silence } }

/-- The group filter check passes (R81). -/
def Gateway.groupPasses (g : Gateway) (p : PortId) (r : DecisionRecord) (f : Frame) : Bool :=
  !isGroup (r.sentDest f) || r.bypass || binSet g.group p.other (binOf (r.sentDest f))

/-- The five checks of R79 at receive completion. -/
def Gateway.decideForward (g : Gateway) (p : PortId) (r : DecisionRecord) (f : Frame) : Gateway :=
  if f.hop = 0 then ((g.answerNak p r .nakRefuse).countDevice .hopExpired).latch .hopExpired
  else if !g.groupPasses p r f then g.silent p r
  else if (g.port p.other).state ≠ .active then g.answerNak p r .nakRefuse
  else g.carryForward p r f (·.holdOrBusy p r) (g.forwardVerdict p r (g.treatmentOf r))

/-- A verdict carried out at receive completion (R77 to R79). -/
def Gateway.decideAction (g : Gateway) (p : PortId) (r : DecisionRecord) (f : Frame) : Gateway :=
  match r.action with
  | some .ignore => g.silent p r
  | some .refuse => g.answerNak p r .nakRefuse
  | some .divert => (g.claimDivert p r f).getD (g.holdOrBusy p r)
  | some .forward => g.decideForward p r f
  | none => g.silent p r

/-- The route path: the lookup with its hit count, or the default action (R74 to R76). -/
def Gateway.decideRoute (g : Gateway) (p : PortId) (f : Frame) : Gateway :=
  let access := (g.port p).words.access
  match lookup g.route p f with
  | some e =>
    ({ g with route := bumpHit g.route e }).decideAction p (DecisionRecord.ofEntry g.route e access f) f
  | none => g.decideAction p (DecisionRecord.ofDefault (g.port p).words.defaultAction access f) f

/-- The decision for a good frame on an ACTIVE port (R65, R66). -/
def Gateway.classify (g : Gateway) (p : PortId) (f : Frame) : Gateway :=
  let access := (g.port p).words.access
  if f.kind = kindPause then g.silent p (DecisionRecord.bare .pause access f)
  else
    match managementMatch g.general access f with
    | some own =>
      let r := { DecisionRecord.bare .management access f with own := some own }
      (g.claimManagement p r f).getD (g.holdOrBusy p r)
    | none => g.decideRoute p f

/-! ## The re-test of a hold (R87) -/

/-- The waiting conditions of R86 tested again, on the record and the staged frame. -/
def Gateway.retestHold (g : Gateway) (p : PortId) (r : DecisionRecord) (f : Frame) : Gateway :=
  if r.path = .management then (g.claimManagement p r f).getD g
  else if r.action = some .divert then (g.claimDivert p r f).getD g
  else g.carryForward p r f id (g.forwardVerdict p r r.treatment)

end Sys2Proof.Machine
end

