-- ==== Sys2Proof/Machine/Receive.lean ====
section
/-! DEFINITION. The commands of the line and the receive side: BUS_IDLE, START_BIT, RECEIVE_COMPLETION,
SYMBOL_ERROR, LENGTH_OUT_OF_RANGE, PAUSE_RX, END_DELIMITER, HOLD_RETEST, HOLD_EXPIRY, PAUSE_EXPIRY. -/

namespace Sys2Proof.Machine

/-- The port follows the line: it is not STARTING (R20). -/
def Port.follows (q : Port) : Bool :=
  q.state != .starting

/-- So many further recessive bit times read (R3): eleven in the gap or resynchronising make the view idle,
and what comes after counts towards the back-off (R29). -/
def LineView.recessive (v : LineView) (bits : Nat) : LineView :=
  match v with
  | .gap n => if 11 ≤ n + bits then .idle (n + bits - 11) else .gap (n + bits)
  | .resync n => if 11 ≤ n + bits then .idle (n + bits - 11) else .resync (n + bits)
  | .idle n => .idle (n + bits)
  | .inFrame => .inFrame
  | .inSlot => .inSlot

/-- A port reads so many further recessive bit times: an abort pattern it drove is over (R31, entry 33). -/
def Port.hearRecessive (bits : Nat) (q : Port) : Port :=
  { q with view := q.view.recessive bits, abort := if bits = 0 then q.abort else [] }

/-- BUS_IDLE on a port. -/
def Gateway.busIdle (p : PortId) (bits : Nat) (g : Gateway) : Gateway :=
  if (g.port p).follows then g.modPort p (Port.hearRecessive bits) else g

/-- BUS_IDLE (R3): consecutive recessive bit times bring a port's view to idle. -/
def execBusIdle (p : PortId) (bits : Nat) (s : State) : Host.Outcome State Fault Refusal :=
  onGateway (Gateway.busIdle p bits) s

/-- A dominant bit read by a port (R3, R24): a start bit in the gap or idle; resynchronising, the count
restarts at zero. -/
def Port.startBit (q : Port) : Port :=
  match q.view with
  | .gap _ => { q with view := .inFrame, rx := .rFrame }
  | .idle _ => { q with view := .inFrame, rx := .rFrame }
  | .resync _ => { q with view := .resync 0 }
  | .inFrame => q
  | .inSlot => q

/-- START_BIT on a port. -/
def Gateway.startBit (p : PortId) (g : Gateway) : Gateway :=
  if (g.port p).follows then g.modPort p Port.startBit else g

/-- START_BIT (R24, R3, R4): a dominant bit in the idle or the gap is another node's start bit. -/
def execStartBit (p : PortId) (s : State) : Host.Outcome State Fault Refusal :=
  onGateway (Gateway.startBit p) s

/-- The port is receiving a frame (R24). -/
def Port.receiving (q : Port) : Bool :=
  q.follows && q.rx = .rFrame

/-- A frame abandoned in its middle (R6, R8, R24): nothing kept, R_IDLE, the view resynchronising. The count of
recessive bit times starts at zero: recessive bits read in the frame do not count (entry 31). -/
def Port.abandonFrame (q : Port) : Port :=
  { q with rx := .rIdle, view := .resync 0, staging := none, record := none, role := .nonClaimant }

/-- A frame found with a symbol error or a length out of range (R25). -/
def Gateway.abandonFrame (p : PortId) (g : Gateway) : Gateway :=
  if (g.port p).receiving then (g.modPort p Port.abandonFrame).count p .rxFormat else g

/-- SYMBOL_ERROR (R6, R25): the frame is abandoned and counted in RX_FORMAT. -/
def execSymbolError (p : PortId) (s : State) : Host.Outcome State Fault Refusal :=
  onGateway (Gateway.abandonFrame p) s

/-- LENGTH_OUT_OF_RANGE on a port: a length byte of 97-255. -/
def Gateway.lengthOutOfRange (p : PortId) (length : Byte) (g : Gateway) : Gateway :=
  if 96 < length.toNat then g.abandonFrame p else g

/-- LENGTH_OUT_OF_RANGE (R8, R25): the frame is abandoned and counted in RX_FORMAT. -/
def execLengthOutOfRange (p : PortId) (length : Byte) (s : State) : Host.Outcome State Fault Refusal :=
  onGateway (Gateway.lengthOutOfRange p length) s

/-- A frame read whole: it stands in staging with its check, in its slot, unclaimed so far (R24). -/
def Port.stage (q : Port) (f : Frame) (check : Word) : Port :=
  { q with rx := .rSlot, view := .inSlot, staging := some ⟨f, check⟩, record := none, role := .nonClaimant }

/-- RECEIVE_COMPLETION of a frame on a port: judged (R8), counted (R25), and in ACTIVE classified (R65). -/
def Gateway.complete (p : PortId) (f : Frame) (check : Word) (g : Gateway) : Gateway :=
  let g := g.modPort p (·.stage f check)
  match f.judge check with
  | .checkError => (g.count p .rxCheck).latch (.check p)
  | .illegal => g.count p .rxFormat
  | .good =>
    let g := g.count p .rxGood
    if (g.port p).state = .active then g.classify p f else g

/-- RECEIVE_COMPLETION on a port, of the bytes and check as read. -/
def Gateway.receiveCompletion (p : PortId) (bytes : List Byte) (check : Word) (g : Gateway) : Gateway :=
  if (g.port p).receiving then
    match Frame.ofBytes bytes with
    | some f => (g.complete p f check).settle
    | none => g
  else g

/-- RECEIVE_COMPLETION (R24, R25, R65): the last check bit of a frame is read. -/
def execReceiveCompletion (p : PortId) (bytes : List Byte) (check : Word) (s : State) :
    Host.Outcome State Fault Refusal :=
  onGateway (Gateway.receiveCompletion p bytes check) s

/-- The end delimiter on the receive side (R24, R3): R_IDLE, staging and record dropped, the view in the gap. -/
def Port.endSlot (q : Port) : Port :=
  { q with rx := .rIdle, view := .gap 0, staging := none, record := none, role := .nonClaimant }

/-- The port is in the slot of a frame it received, and does not hold the line (R3, R24). -/
def Port.slotEnds (q : Port) : Bool :=
  q.follows && q.rx = .rSlot && !q.isHolding

/-- The pause count the port acts on at this end delimiter: an ACTIVE port in the slot of a good PAUSE frame
(R20, R36; the state is taken at the delimiter, entry 28). -/
def Port.pauseFrame (q : Port) : Option Nat :=
  match q.staging, q.record with
  | some st, some r =>
    if q.state = .active ∧ q.rx = .rSlot ∧ r.path = .pause then some st.frame.pauseCount else none
  | _, _ => none

/-- The pause a count sets, whatever it was before (R18, R36). -/
def pauseOfCount (n : Nat) : PauseState :=
  if n = 0 then .running else .paused (256 * n)

/-- The end delimiter of a good PAUSE frame (R36): the pause is set from its count, PAUSE_RX counted, the
reception reported, and the slot is over. -/
def Gateway.endPause (p : PortId) (n : Nat) (g : Gateway) : Gateway :=
  let g := g.modPort p fun q => { q.endSlot with pause := pauseOfCount n }
  ((g.count p .pauseRx).latch (.pauseRx p)).settle

/-- PAUSE_RX on a port. -/
def Gateway.pauseRx (p : PortId) (g : Gateway) : Gateway :=
  match (g.port p).pauseFrame with
  | some n => g.endPause p n
  | none => g

/-- PAUSE_RX (R36): the end delimiter of a good PAUSE frame's slot. -/
def execPauseRx (p : PortId) (s : State) : Host.Outcome State Fault Refusal :=
  onGateway (Gateway.pauseRx p) s

/-- END_DELIMITER on a port; that of a PAUSE frame is PAUSE_RX (entry 8). -/
def Gateway.endDelimiter (p : PortId) (g : Gateway) : Gateway :=
  if (g.port p).slotEnds then
    match (g.port p).pauseFrame with
    | some n => g.endPause p n
    | none => g.modPort p Port.endSlot
  else g

/-- END_DELIMITER (R24, R3, R65): the slot of a received frame ends. -/
def execEndDelimiter (p : PortId) (s : State) : Host.Outcome State Fault Refusal :=
  onGateway (Gateway.endDelimiter p) s

/-- A prompted re-test is taken off a hold. -/
def Port.takeRetest (q : Port) : Port :=
  match q.role with
  | .holding t _ => { q with role := .holding t false }
  | .nonClaimant => q
  | .answered _ => q

/-- HOLD_RETEST on a port (R87): only a prompted hold re-tests. -/
def Gateway.holdRetest (p : PortId) (g : Gateway) : Gateway :=
  match (g.port p).role, (g.port p).record, (g.port p).staging with
  | .holding _ true, some r, some st => ((g.modPort p Port.takeRetest).retestHold p r st.frame).settle
  | _, _, _ => g

/-- HOLD_RETEST (R87): a holding port tests its waiting conditions again. -/
def execHoldRetest (p : PortId) (s : State) : Host.Outcome State Fault Refusal :=
  onGateway (Gateway.holdRetest p) s

/-- HOLD_EXPIRY on a port (R89). -/
def Gateway.holdExpiry (p : PortId) (g : Gateway) : Gateway :=
  match (g.port p).role, (g.port p).record with
  | .holding _ _, some r => ((g.answerNak p r .nakBusy).latch (.holdExpired p)).settle
  | _, _ => g

/-- HOLD_EXPIRY (R89, R27): the hold timer expires; NAK-BUSY, counted and reported. -/
def execHoldExpiry (p : PortId) (s : State) : Host.Outcome State Fault Refusal :=
  onGateway (Gateway.holdExpiry p) s

/-- PAUSE_EXPIRY on a port (R37, R57). -/
def Gateway.pauseExpiry (p : PortId) (g : Gateway) : Gateway :=
  match (g.port p).pause with
  | .paused _ => (g.modPort p fun q => { q with pause := .running }).settle
  | .running => g

/-- PAUSE_EXPIRY (R37): a PAUSED port becomes RUNNING and makes an egress selection. -/
def execPauseExpiry (p : PortId) (s : State) : Host.Outcome State Fault Refusal :=
  onGateway (Gateway.pauseExpiry p) s

end Sys2Proof.Machine
end

