-- ==== Sys2Proof/Machine/Transmit.lean ====
section
/-! DEFINITION. The commands of the transmit side: TRANSMIT_START, ARB_LOST, COLLISION, TRANSMIT_OUTCOME,
HOLD_BEYOND_TOLERANCE (R29 to R35, R97, R98). -/

namespace Sys2Proof.Machine

/-- The frame in the transmit slot. -/
def TxSlot.frame : TxSlot → Option Frame
  | .empty => none
  | .pool b => some b.frame
  | .pause f => some f

/-- The frame as an attempt sends it: a pool frame loses its tag when the strip flag is on (R97). -/
def Port.sentFrame (q : Port) : Option Frame :=
  match q.slot with
  | .empty => none
  | .pool b => some (if q.words.strip then { b.frame with tag := none } else b.frame)
  | .pause f => some f

/-- The port's pause lets the frame in the slot start (R29, R37). -/
def Port.pauseAllows (q : Port) : Bool :=
  match q.slot, q.pause with
  | .pause _, _ => true
  | _, .running => true
  | _, .paused _ => false

/-- The view is idle and has been for the back-off of the attempt count (R29). -/
def Port.backedOff (q : Port) : Bool :=
  match q.view with
  | .idle n => decide (q.attempts * 32 ≤ n)
  | .inFrame => false
  | .inSlot => false
  | .gap _ => false
  | .resync _ => false

/-- All that R29 asks for a start bit. -/
def Port.mayStart (q : Port) : Bool :=
  q.tx = .tWaitIdle && q.state = .active && q.backedOff && q.pauseAllows

/-- A transmission reaches a point (R29): the start bit, with the strip flag read and the check computed
(R97, R98); the end of the field; the end of the check; the claim bit, with the tolerance read (R32). -/
def Port.advance (q : Port) (point : TxPoint) : Port :=
  match point with
  | .startBit =>
    if q.mayStart then
      { q with
        tx := .tArb
        view := .inFrame
        sending := q.sentFrame.map fun f => Attempt.of f.bytes
        tolerance := none }
    else q
  | .fieldEnd => if q.tx = .tArb then { q with tx := .tSend } else q
  | .checkEnd => if q.tx = .tArb ∨ q.tx = .tSend then { q with tx := .tSlot, view := .inSlot } else q
  | .claimBit =>
    if q.tx.onLine then
      { q with tx := .tSlot, view := .inSlot, tolerance := some q.words.holdTolerance.toNat }
    else q

/-- TRANSMIT_START on a port. -/
def Gateway.transmitStart (p : PortId) (point : TxPoint) (g : Gateway) : Gateway :=
  g.modPort p (·.advance point)

/-- TRANSMIT_START (R29, R97, R98): a port drives its start bit; the later points of the transmission are
reached (entry 7). -/
def execTransmitStart (p : PortId) (point : TxPoint) (s : State) : Host.Outcome State Fault Refusal :=
  onGateway (Gateway.transmitStart p point) s

/-- ARB_LOST on a port (R30): the winning frame is received, the own frame waits with its count. -/
def Gateway.arbLost (p : PortId) (g : Gateway) : Gateway :=
  if (g.port p).tx = .tArb then
    (g.modPort p fun q => { q with tx := .tWaitIdle, rx := .rFrame, sending := none }).count p .arbLost
  else g

/-- ARB_LOST (R30, R10): arbitration is lost; it is not an attempt. -/
def execArbLost (p : PortId) (s : State) : Host.Outcome State Fault Refusal :=
  onGateway (Gateway.arbLost p) s

/-- A failed attempt is accounted for (R33): the frame waits for its next start, or is given up with
TX_FAILED and the RETRY report. The end itself, with what it reports to the agent (R34, R145), comes before RETRY
(entry 10). -/
def Gateway.failAttempt (p : PortId) (g : Gateway) : Gateway :=
  let n := (g.port p).attempts + 1
  let g := g.modPort p fun q => { q with attempts := n, tx := .tWaitIdle, sending := none, tolerance := none }
  if n ≤ (g.port p).words.retryLimit.toNat then g
  else ((g.count p .txFailed).endTransmission p .failed).latch (.retry p)

/-- COLLISION on a port (R31): the port drives the abort pattern, its view resynchronises, and the attempt has
failed. In T_ARB it is a recessive bit read where the port drove dominant (R10). -/
def Gateway.collision (p : PortId) (g : Gateway) : Gateway :=
  if (g.port p).tx = .tArb ∨ (g.port p).tx = .tSend then
    ((g.modPort p fun q => { q with view := .resync 0, abort := abortPattern }).failAttempt p).settle
  else g

/-- COLLISION (R31, R11): the broken attempt is a failed attempt. -/
def execCollision (p : PortId) (s : State) : Host.Outcome State Fault Refusal :=
  onGateway (Gateway.collision p) s

/-- The outcomes of R32. -/
inductive TxOutcome where
  | done
  | refused
  | failedAttempt
  deriving DecidableEq, Repr

/-- The response a sender reads in R1 and R2 (R13): each response by its levels, and NAK-REFUSE also where no
claimant drives either bit. -/
def readResponse (r1 r2 : Bool) : Response :=
  match r1, r2 with
  | true, true => .ack
  | true, false => .nakBusy
  | false, true => .nakRefuse
  | false, false => .nakRefuse

/-- The outcome of a slot that ended within tolerance (R14, R32): group frames and the port's PAUSE frame
are done, claimed or not. -/
def TxSlot.outcome (slot : TxSlot) (read : SlotRead) : TxOutcome :=
  match slot with
  | .pause _ => .done
  | .empty => .done
  | .pool b =>
    if isGroup b.frame.dest then .done
    else
      match read with
      | .unclaimed => .failedAttempt
      | .claimed _ r1 r2 =>
        match readResponse r1 r2 with
        | .ack => .done
        | .nakRefuse => .refused
        | .nakBusy => .failedAttempt

/-- The hold was within the tolerance the port read, or reads now when the claim bit had no step (R15, R32,
entry 7). -/
def Port.withinTolerance (q : Port) (read : SlotRead) : Bool :=
  match read with
  | .unclaimed => true
  | .claimed hold _ _ => decide (hold ≤ 64 * q.tolerance.getD q.words.holdTolerance.toNat)

/-- The counter of a transmission that ends done (R32, R39). -/
def TxSlot.doneCounter : TxSlot → PortCounter
  | .pause _ => .pauseTx
  | .pool _ => .txDone
  | .empty => .txDone

/-- An outcome carried out (R32, R33, R34). -/
def Gateway.takeOutcome (p : PortId) (g : Gateway) : TxOutcome → Gateway
  | .done => (g.count p (g.port p).slot.doneCounter).endTransmission p .done
  | .refused => (g.count p .txFailed).endTransmission p .failed
  | .failedAttempt => g.failAttempt p

/-- TRANSMIT_OUTCOME on a port: at the end delimiter the view passes to the gap (R14). -/
def Gateway.transmitOutcome (p : PortId) (read : SlotRead) (g : Gateway) : Gateway :=
  let q := g.port p
  if q.tx.onLine ∧ q.withinTolerance read then
    ((g.modPort p fun q => { q with view := .gap 0 }).takeOutcome p (q.slot.outcome read)).settle
  else g

/-- TRANSMIT_OUTCOME (R32): the sender takes its outcome at the end delimiter. -/
def execTransmitOutcome (p : PortId) (read : SlotRead) (s : State) : Host.Outcome State Fault Refusal :=
  onGateway (Gateway.transmitOutcome p read) s

/-- HOLD_BEYOND_TOLERANCE on a port: a failed attempt, the view resynchronising (R15, R32). -/
def Gateway.holdBeyondTolerance (p : PortId) (g : Gateway) : Gateway :=
  if (g.port p).tx.onLine then
    ((g.modPort p fun q => { q with view := .resync 0 }).failAttempt p).settle
  else g

/-- HOLD_BEYOND_TOLERANCE (R15, R32): the line still reads dominant beyond the tolerance. -/
def execHoldBeyondTolerance (p : PortId) (s : State) : Host.Outcome State Fault Refusal :=
  onGateway (Gateway.holdBeyondTolerance p) s

end Sys2Proof.Machine
end

