-- ==== Sys2Proof/Machine/Clock.lean ====
section
/-! DEFINITION. The commands of local time and the link supervisors: TICK, LINE_FAULT_CHANGE, LINK_UP,
LINK_DOWN (R40, R41, R54, R103, R153, R155). -/

namespace Sys2Proof.Machine

/-- An entry one tick older; the age stops at 65535 (R54). -/
def QueueEntry.older (e : QueueEntry) : QueueEntry :=
  { e with age := min 65535 (e.age + 1) }

/-- A port at a tick: its queued frames age (R54), and its link supervisor counts and finds whether a change
of level is due with the debounce as it stands (R41). -/
def Port.tick (q : Port) : Port :=
  let count := min 255 (q.linkCount + 1)
  { q with
    urgent := q.urgent.map QueueEntry.older
    normal := q.normal.map QueueEntry.older
    linkCount := count
    linkDue := decide (q.words.debounce.toNat ≤ count) && (q.fault == q.linkUp) }

/-- A meter refilled: credit plus rate, stopped at the burst; only an enabled one (R103). -/
def Meter.refilled (m : Meter) : Meter :=
  if m.enabled then
    { m with credit := BitVec.ofNat 16 (min (m.credit.toNat + m.rate.toNat) m.burst.toNat) }
  else m

/-- Meter `k` refilled; a raised credit prompts the holds that name it (R103). -/
def Gateway.refill (g : Gateway) (k : Nat) : Gateway :=
  let m := g.meter k
  let g' := { g with meters := g.meters.set k m.refilled }
  if m.credit.toNat < m.refilled.credit.toNat then g'.promptMeter k else g'

/-- The store timer at a tick: it counts while an erase or write runs (R149). -/
def Store.tick (s : Store) : Store :=
  match s.state with
  | .sIdle => s
  | .sErasing => { s with timer := s.timer + 1 }
  | .sWriting => { s with timer := s.timer + 1 }

/-- TICK on the part: nothing happens while it is held or in the Boot Load (R166). -/
def Gateway.tick (g : Gateway) : Gateway :=
  if g.phase = .running then
    let g := (g.modPort .a Port.tick).modPort .b Port.tick
    let g := (List.range 16).foldl Gateway.refill g
    { g with store := g.store.tick }
  else g

/-- TICK (R54, R103, R41, R149): 1 ms of local time. -/
def execTick (s : State) : Host.Outcome State Fault Refusal :=
  onGateway Gateway.tick s

/-- A fault condition of the line appears or clears; the tick count restarts when the fault does (R40, R41). -/
def Port.setFault (q : Port) (cause : LineFault) (present : Bool) : Port :=
  let q' :=
    match cause with
    | .noBias => { q with noBias := present }
    | .stuckDominant => { q with stuckDominant := present }
  if q'.fault = q.fault then q' else { q' with linkCount := 0 }

/-- LINE_FAULT_CHANGE on a port. -/
def Gateway.lineFaultChange (p : PortId) (cause : LineFault) (present : Bool) (g : Gateway) : Gateway :=
  g.modPort p (·.setFault cause present)

/-- LINE_FAULT_CHANGE (R40, R41): a condition of the line fault appears or clears. -/
def execLineFaultChange (p : PortId) (cause : LineFault) (present : Bool) (s : State) :
    Host.Outcome State Fault Refusal :=
  onGateway (Gateway.lineFaultChange p cause present) s

/-- A port whose link level goes up (R41, R19). -/
def Port.raiseLink (q : Port) : Port :=
  { q with linkUp := true, linkDue := false, state := if q.state = .linkDown then .active else q.state }

/-- LINK_UP on a port, when the last tick found it due. -/
def Gateway.linkUp (p : PortId) (g : Gateway) : Gateway :=
  let q := g.port p
  if q.follows ∧ q.linkDue ∧ ¬ q.linkUp then
    let g := g.modPort p Port.raiseLink
    let g := if q.state = .linkDown then g.promptActive p else g
    (g.evalLevel (.link p) true).settle
  else g

/-- LINK_UP (R41, R19, R171): the debounced level goes up; an ONLINE port becomes ACTIVE. -/
def execLinkUp (p : PortId) (s : State) : Host.Outcome State Fault Refusal :=
  onGateway (Gateway.linkUp p) s

/-- A port whose link level goes down: an ACTIVE one ends its claim (R28), abandons its attempt (R35), and drives
nothing more (R20). -/
def Port.dropLink (q : Port) : Port :=
  let q := { q with linkUp := false, linkDue := false }
  if q.state = .active then { q.endClaim.stopSending with state := .linkDown, abort := [] } else q

/-- LINK_DOWN on a port, when the last tick found it due. -/
def Gateway.linkDown (p : PortId) (g : Gateway) : Gateway :=
  let q := g.port p
  if q.follows ∧ q.linkDue ∧ q.linkUp then ((g.modPort p Port.dropLink).evalLevel (.link p) false).settle
  else g

/-- LINK_DOWN (R41, R19, R28, R35, R171): the debounced level goes down; an ACTIVE port becomes LINK_DOWN. -/
def execLinkDown (p : PortId) (s : State) : Host.Outcome State Fault Refusal :=
  onGateway (Gateway.linkDown p) s

end Sys2Proof.Machine
end

