-- ==== Sys2Proof/Machine/Resets.lean ====
section
/-! DEFINITION. The resets and the Boot Load: POWER_ON_RESET, LINE_RESET, RESET_RELEASE, BOOT_PAGE_LOAD,
BOOT_LOAD_END, REQUEST_RESET (R159 to R166). -/

namespace Sys2Proof.Machine

/-- What a reset leaves of a port: all at reset, but the line's own condition (R23, R41, entry 15). -/
def Port.afterReset (q : Port) (p : PortId) : Port :=
  { Port.reset p with noBias := q.noBias, stuckDominant := q.stuckDominant }

/-- What a reset leaves of the store (R160); its timer stops (entry 32). -/
def Store.afterReset (s : Store) : Store :=
  { Store.manufactured with pages := s.pages, inFlight := s.inFlight }

/-- A reset of the part of any kind, taken and held, with its start cause (R159, R160, R23, R64, R116, R146,
R167, R169). One that comes during the hold of another is taken the same way (entry 26). -/
def Gateway.resetBy (cause : StartCause) (g : Gateway) : Gateway :=
  { Gateway.reset with
    startCause := cause
    portA := g.portA.afterReset .a
    portB := g.portB.afterReset .b
    store := g.store.afterReset }

/-- POWER_ON_RESET (R159): start cause POWER. -/
def execPowerOnReset (s : State) : Host.Outcome State Fault Refusal :=
  onGateway (Gateway.resetBy .power) s

/-- LINE_RESET (R159): start cause LINE. -/
def execLineReset (s : State) : Host.Outcome State Fault Refusal :=
  onGateway (Gateway.resetBy .line) s

/-- The page named by the in-flight record becomes TORN at the start of a Boot Load (R161). -/
def Store.markTorn (s : Store) : Store :=
  match s.inFlight with
  | none => s
  | some (_, n) => { s with pages := s.pages.modify n fun page => { page with state := .torn } }

/-- A Boot Load begins; page 1 is next (R161, R162). -/
def Gateway.beginLoad (g : Gateway) : Gateway :=
  { g with phase := .loading 1, store := g.store.markTorn }

/-- RESET_RELEASE on the part. -/
def Gateway.resetRelease (g : Gateway) : Gateway :=
  if g.phase = .held then g.beginLoad else g

/-- RESET_RELEASE (R159, R161): the hold ends and the Boot Load begins. -/
def execResetRelease (s : State) : Host.Outcome State Fault Refusal :=
  onGateway Gateway.resetRelease s

/-- REQUEST_RESET on the part: a reset that is not held (R143, R159). -/
def Gateway.requestReset (g : Gateway) : Gateway :=
  if g.restart = .due then (g.resetBy .request).beginLoad else g

/-- REQUEST_RESET (R143, R159): the pending restart takes place. -/
def execRequestReset (s : State) : Host.Outcome State Fault Refusal :=
  onGateway Gateway.requestReset s

/-! ## Pages (R157, R162, R163) -/

/-- A page of the store. -/
def Store.pageAt (s : Store) (n : Nat) : Page :=
  s.pages.getD n ⟨.erased, []⟩

/-- A word of a page as a reader finds it: 0 unless the page is WRITTEN (R147). -/
def Page.read (page : Page) (w : Nat) : Word :=
  match page.state with
  | .written => page.words.getD w 0
  | .erased => 0
  | .torn => 0

/-- A page counts as zero when all its 16 words read 0; a TORN page is not judged so (R163). -/
def Page.isZero (page : Page) : Bool :=
  page.state != .torn && (List.range 16).all fun w => page.read w == 0

/-- PORT words of one port from page 1 (R45, R163); `base` is 0 or 8. -/
def loadedPortWords (page : Page) (p : PortId) (base : Nat) : PortWords :=
  (List.range 7).foldl (fun w k => w.set k (loadedPortWord p k (page.read (base + k)))) (PortWords.reset p)

/-- PORT loaded from page 1: a zero page and a TORN one give the reset values (R45, R162, R163). -/
def Gateway.loadPort (g : Gateway) (page : Page) : Gateway :=
  if page.state = .torn ∨ page.isZero then
    (g.modPort .a fun q => { q with words := PortWords.reset .a }).modPort .b fun q =>
      { q with words := PortWords.reset .b }
  else
    (g.modPort .a fun q => { q with words := loadedPortWords page .a 0 }).modPort .b fun q =>
      { q with words := loadedPortWords page .b 8 }

/-- GENERAL words from page 2, the pool-low mark judged (R52, R163). -/
def loadedGeneral (page : Page) : General :=
  (List.range 11).foldl
    (fun w i => w.set i (if i = 10 then loadedPoolWord (page.read i) else page.read i)) General.reset

/-- GENERAL loaded from page 2; POOL_LOW and ALERT are re-evaluated (R50, R163, R175). -/
def Gateway.loadGeneral (g : Gateway) (page : Page) : Gateway :=
  let general := if page.state = .torn ∨ page.isZero then General.reset else loadedGeneral page
  ({ g with general := general }).evalPool

/-- GROUP loaded from page 3 (R163); a TORN page leaves every bin clear. -/
def Gateway.loadGroup (g : Gateway) (page : Page) : Gateway :=
  { g with group := (List.range 8).map page.read }

/-- A meter from its four page words, setting by setting, its credit limited to its burst (R117, entry 18). -/
def loadedMeter (page : Page) (base : Nat) : Meter :=
  if page.state = .torn then Meter.reset
  else
    ((List.range 4).foldl (fun m j => m.set j (loadedMeterWord j (page.read (base + j)))) Meter.reset).limited

/-- Four meters loaded from one of pages 4-7 (R117, R157). -/
def Gateway.loadMeters (g : Gateway) (page : Page) (n : Nat) : Gateway :=
  { g with
    meters := (List.range 4).foldl (fun ms i => ms.set (4 * (n - 4) + i) (loadedMeter page (4 * i))) g.meters }

/-- Sixteen ROUTE words loaded from one of pages 8-55 as they stand (R157, R163). -/
def Gateway.loadRoute (g : Gateway) (page : Page) (n : Nat) : Gateway :=
  { g with
    route := (List.range 16).foldl (fun ws w => ws.set (16 * (n - 8) + w) (page.read w)) g.route }

/-- Page `n` of 1-55 loaded as one event (R162). -/
def Gateway.loadPage (g : Gateway) (n : Nat) : Gateway :=
  let page := g.store.pageAt n
  let g := { g with loadFault := g.loadFault || page.state == PageState.torn, phase := .loading (n + 1) }
  if n = 1 then g.loadPort page
  else if n = 2 then g.loadGeneral page
  else if n = 3 then g.loadGroup page
  else if n ≤ 7 then g.loadMeters page n
  else g.loadRoute page n

/-- BOOT_PAGE_LOAD on the part. -/
def Gateway.bootPageLoad (g : Gateway) : Gateway :=
  match g.phase with
  | .loading n => if n ≤ 55 then g.loadPage n else g
  | .held => g
  | .running => g

/-- BOOT_PAGE_LOAD (R162, R163): the next of pages 1-55 is loaded. -/
def execBootPageLoad (s : State) : Host.Outcome State Fault Refusal :=
  onGateway Gateway.bootPageLoad s

/-! ## The end of the Boot Load (R164, R165) -/

/-- Some word of entry `e` was loaded from a TORN page (R158, R164). -/
def entryTorn (s : Store) (e : Nat) : Bool :=
  (List.range 12).any fun w => decide ((s.pageAt (8 + (12 * e + w) / 16)).state = .torn)

/-- The entry's valid flag cleared. -/
def invalidate (route : List Word) (e : Nat) : List Word :=
  route.set (12 * e) (routeWord route e 0 &&& 0x7FFF)

/-- One entry settled: invalidated when torn or not well-formed, its hit count 0 (R164). -/
def settleEntry (s : Store) (route : List Word) (e : Nat) : List Word :=
  let route := if entryTorn s e || !entryWellFormed route e then invalidate route e else route
  route.set (12 * e + 11) 0

/-- The Route Table settled (R164). -/
def settleRoute (s : Store) (route : List Word) : List Word :=
  (List.range 64).foldl (settleEntry s) route

/-- A meter at the end of the load (R117). -/
def Meter.started (m : Meter) : Meter :=
  if m.enabled then { m with credit := m.burst } else m.limited

/-- A port leaves STARTING for the state its loaded mode names (R19, R23, R165). -/
def Port.leaveStarting (q : Port) : Port :=
  { q with
    state := if q.words.modeOnline then .linkDown else .offline
    linkUp := false
    linkCount := 0
    linkDue := false
    view := .resync 0 }

/-- The event that ends the load (R165), in the order of entry 27; STORE_FAULT was kept by the in-flight record,
LOAD_FAULT by its own flag (entry 29). -/
def Gateway.endLoad (g : Gateway) : Gateway :=
  let storeFault := g.store.inFlight.isSome
  let loadFault := g.loadFault
  let g :=
    { g with
      phase := .running
      loadFault := false
      route := settleRoute g.store g.route
      meters := g.meters.map Meter.started
      store := { g.store with inFlight := none } }
  let g := (g.modPort .a Port.leaveStarting).modPort .b Port.leaveStarting
  let g := if storeFault then g.latch .storeFault else g
  if loadFault then g.latch .loadFault else g

/-- BOOT_LOAD_END on the part. -/
def Gateway.bootLoadEnd (g : Gateway) : Gateway :=
  match g.phase with
  | .loading n => if n = 56 then g.endLoad else g
  | .held => g
  | .running => g

/-- BOOT_LOAD_END (R164, R165): the load ends and the ports leave STARTING. -/
def execBootLoadEnd (s : State) : Host.Outcome State Fault Refusal :=
  onGateway Gateway.bootLoadEnd s

end Sys2Proof.Machine
end

