-- ==== Sys2Proof/Machine/Agent.lean ====
section
/-! DEFINITION. How the agent runs a request (R119 to R126): REQUEST_DECODE, REPLY_REOFFER, and what every
operation shares. -/

namespace Sys2Proof.Machine

/-! ## The current operation and its result -/

/-- The operation that runs next, once the request is decoded. -/
def Execution.current (ex : Execution) : Option Op :=
  if ex.decoded then ex.ops.head? else none

/-- The operation the agent runs next. -/
def Gateway.currentOp (g : Gateway) : Option Op :=
  g.exec.bind Execution.current

/-- The entry under execution. -/
def Gateway.executing (g : Gateway) : Option AgentEntry :=
  g.agentQueue.find? AgentEntry.isExecuting

/-- The access level the executing request runs with (R118, R123). -/
def Gateway.execAccess (g : Gateway) : Access :=
  match g.executing with
  | some e => e.access
  | none => .none

/-- The current operation's space (R125): 96 less the bytes already in the reply, less 2 for each operation
after it. -/
def Execution.space (ex : Execution) : Nat :=
  replyCap - (3 + ex.results.length) - 2 * (ex.ops.length - 1)

/-- A result of so many data bytes fits its space (R125). -/
def Execution.fits (ex : Execution) (n : Nat) : Bool :=
  decide (2 + n ≤ ex.space)

/-- A result: status, data length, data (R125, R183). -/
def resultBytes (status : OpStatus) (data : List Byte) : List Byte :=
  status.code :: BitVec.ofNat 8 data.length :: data

/-- The reply payload of an execution (R125, R183). -/
def Execution.payload (ex : Execution) (status : RequestStatus) : List Byte :=
  ex.tag :: status.code :: BitVec.ofNat 8 ex.count :: ex.results

/-! ## The end of an execution (R120, R125, R126) -/

/-- The request's buffer turned into its reply (R99, R125). -/
def Gateway.replyBuffer (g : Gateway) (e : AgentEntry) (payload : List Byte) (awaited : Bool) : PoolBuffer where
  frame := e.buf.frame.replyTo (g.general.ownValue e.own) payload
  ingress := e.buf.ingress
  origin := .reply
  awaited := awaited

/-- Execution ends: the reply is built and offered, and the next request begins (R119, R126). -/
def Gateway.endExecution (g : Gateway) (ex : Execution) (status : RequestStatus) : Gateway :=
  let turn := fun e => { e with buf := g.replyBuffer e (ex.payload status) (status == .restarting) }
  let g :=
    { g with exec := none, agentQueue := updateFirst AgentEntry.isExecuting turn g.agentQueue }
  (g.offerReply AgentEntry.isExecuting).beginExecution

/-- The results of operations that are not run (R123). -/
def skippedResults (ops : List Op) : List Byte :=
  ops.flatMap fun _ => resultBytes .skipped []

/-- The current operation fails: it has no effect, the rest is SKIPPED, and execution ends (R123, entry 9). -/
def Gateway.failOp (g : Gateway) (ex : Execution) (status : OpStatus) : Gateway :=
  g.endExecution
    { ex with
      results := ex.results ++ resultBytes status [] ++ skippedResults ex.ops.tail
      ops := []
      taken := [] } .ok

/-- The current operation succeeds with its data, having counted `words` words (R120, R123): the next one
is current, or execution ends. -/
def Gateway.finishOp (g : Gateway) (ex : Execution) (status : OpStatus) (data : List Byte) (words : Nat) :
    Gateway :=
  let ex' :=
    { ex with
      results := ex.results ++ resultBytes status data
      ops := ex.ops.tail
      taken := []
      words := ex.words + words }
  if ex.ops.tail.isEmpty then g.endExecution ex' .ok else { g with exec := some ex' }

/-- What an operation does with its checks passed or failed: it fails, it goes on reading with so many words
taken, or it is done in a new state of the part. -/
inductive OpOutcome where
  | fail (status : OpStatus)
  | reading (taken : List Word) (g : Gateway)
  | done (status : OpStatus) (data : List Byte) (words : Nat) (g : Gateway)

/-- The current operation run: access first (R123, R124), then its own body. -/
def Gateway.runOp (g : Gateway) (full : Bool) (body : Execution → OpOutcome) : Gateway :=
  match g.exec with
  | none => g
  | some ex =>
    if full && g.execAccess != .full then (g.failOp ex .denied).settle
    else
      match body ex with
      | .fail status => (g.failOp ex status).settle
      | .reading taken g' => { g' with exec := some { ex with taken := taken } }
      | .done status data words g' => (g'.finishOp ex status data words).settle

/-- A reading operation of `n` words takes the next `k` of them as they stand now (R120); `get` is the word
of a number, `part` the part's state with so many words taken and more to come, and `whole` with the last. -/
def Execution.readWords (ex : Execution) (n k : Nat) (get : Nat → Word) (status : OpStatus)
    (part whole : Nat → Gateway) : OpOutcome :=
  if ex.fits (2 * n) then
    let j := ex.taken.length
    let m := min k (n - j)
    let taken := ex.taken ++ (List.range m).map fun i => get (j + i)
    if taken.length < n then .reading taken (part m)
    else .done status (wordsBytes taken) n (whole m)
  else .fail .replyFull

/-! ## REQUEST_DECODE (R121, R122) -/

/-- A malformed request: no operation runs, a three-byte reply (R122). It is counted and reported before the reply
is offered (entry 10). -/
def Gateway.malformed (g : Gateway) (ex : Execution) (payload : List Byte) : Gateway :=
  let g := ((g.countDevice .agentMalformed).latch .requestMalformed)
  g.endExecution { ex with tag := payload.headD 0, count := 0, results := [] } .malformed

/-- REQUEST_DECODE on the part: the executing request's payload is judged. -/
def Gateway.requestDecode (g : Gateway) : Gateway :=
  match g.exec, g.executing with
  | some ex, some e =>
    if ex.decoded then g
    else
      match parseRequest e.buf.frame.payload with
      | none => (g.malformed ex e.buf.frame.payload).settle
      | some ops =>
        { g with
          exec := some { ex with
            decoded := true
            tag := e.buf.frame.payload.headD 0
            count := ops.length
            ops := ops } }
  | _, _ => g

/-- REQUEST_DECODE (R121, R122): the request is judged at the end of its decode. -/
def execRequestDecode (s : State) : Host.Outcome State Fault Refusal :=
  onGateway Gateway.requestDecode s

/-- REPLY_REOFFER on a port: the oldest waiting reply whose re-offer is prompted (R126). -/
def Gateway.replyReoffer (p : PortId) (g : Gateway) : Gateway :=
  if g.agentQueue.any (AgentEntry.offerOn p) then (g.offerReply (AgentEntry.offerOn p)).settle else g

/-- REPLY_REOFFER (R126): a REPLY_WAIT entry offers its reply again. -/
def execReplyReoffer (p : PortId) (s : State) : Host.Outcome State Fault Refusal :=
  onGateway (Gateway.replyReoffer p) s

end Sys2Proof.Machine
end

