-- ==== Sys2Proof/Machine/TableOps.lean ====
section
/-! DEFINITION. The operations on identity, window, tables, filters, counters, events and capture queue:
IDENT, SELECT, READ, WRITE, PORT_OFFLINE, PORT_ONLINE, GROUP_SET, GROUP_CLEAR, COUNTERS, COUNTERS_CLEAR,
EVENTS_READ, EVENTS_CLEAR, EVENTS_MASK, CAPTURE_TAKE (R127 to R136). -/

namespace Sys2Proof.Machine

/-! ## Words as they are read -/

/-- The port of a PORT index (R42). -/
def portOfIndex (i : Nat) : PortId :=
  if i < 8 then .a else .b

/-- The level word: the present levels (R134, R189). -/
def Gateway.levelWord (g : Gateway) : Word :=
  flagBit g.portA.linkUp 0 ||| flagBit g.portB.linkUp 1 ||| flagBit g.poolLow 2 |||
    flagBit (!g.capture.isEmpty) 3 ||| flagBit (g.store.state != .sIdle) 4

/-- The six words of EVENTS READ and of the EVENTS table (R134, R189). -/
def Gateway.eventWord (g : Gateway) : Nat → Word
  | 0 => g.monitor.flags0
  | 1 => g.monitor.flags1
  | 2 => g.general.mask0
  | 3 => g.general.mask1
  | 4 => g.general.edgeSelect
  | _ => g.levelWord

/-- A table word as it stands (R128, R185 to R189). -/
def Gateway.tableWord (g : Gateway) (t : Table) (i : Nat) : Word :=
  match t with
  | .port =>
    let q := g.port (portOfIndex i)
    if i % 8 = 7 then q.statusWord else q.words.get (i % 8)
  | .general => g.general.get i
  | .group => g.group.getD i 0
  | .meter => (g.meter (i / 4)).get (i % 4)
  | .route => g.route.getD i 0
  | .counters => g.counters.getD i 0
  | .events => g.eventWord i

/-- The start cause as IDENT gives it (R131). -/
def StartCause.code : StartCause → Word
  | .power => 0
  | .line => 1
  | .request => 2

/-- The eight words of IDENT (R131). -/
def Gateway.identWord (g : Gateway) : Nat → Word
  | 0 => 0x3A15
  | 1 => 0x4120
  | 2 => 0x0002
  | 3 => g.startCause.code
  | i => (g.store.pageAt 0).read (i - 4)

/-! ## IDENT, SELECT, READ -/

/-- IDENT on the part, `k` words taken in this step. -/
def Gateway.opIdent (k : Nat) (g : Gateway) : Gateway :=
  match g.currentOp with
  | some .ident =>
    g.runOp false fun ex => ex.readWords 8 k g.identWord .ok (fun _ => g) (fun _ => g)
  | _ => g

/-- IDENT (R131). -/
def execIdent (words : Nat) (s : State) : Host.Outcome State Fault Refusal :=
  onGateway (Gateway.opIdent words) s

/-- SELECT's effect (R127). -/
def Gateway.selectWindow (g : Gateway) (table : Byte) (index : Word) : OpOutcome :=
  match Table.ofCode table.toNat with
  | none => .fail .badOperand
  | some t =>
    if index.toNat < t.size then .done .ok [] 0 { g with windowTable := t, windowIndex := index.toNat }
    else .fail .badOperand

/-- SELECT on the part. -/
def Gateway.opSelect (g : Gateway) : Gateway :=
  match g.currentOp with
  | some (.select table index) => g.runOp false fun _ => g.selectWindow table index
  | _ => g

/-- SELECT (R127): the window is set to a table and an index. -/
def execSelect (s : State) : Host.Outcome State Fault Refusal :=
  onGateway Gateway.opSelect s

/-- The window's index `n` words further, wrapping at the table's end (R128, R129). -/
def Gateway.moveWindow (g : Gateway) (n : Nat) : Gateway :=
  { g with windowIndex := (g.windowIndex + n) % g.windowTable.size }

/-- READ's effect, `k` of its `n` words taken in this step (R128). -/
def Gateway.readWindow (g : Gateway) (n k : Nat) (ex : Execution) : OpOutcome :=
  if 1 ≤ n ∧ n ≤ 32 then
    ex.readWords n k (fun j => g.tableWord g.windowTable ((g.windowIndex + j) % g.windowTable.size)) .ok
      (fun _ => g) (fun _ => g.moveWindow n)
  else .fail .badOperand

/-- READ on the part. -/
def Gateway.opRead (k : Nat) (g : Gateway) : Gateway :=
  match g.currentOp with
  | some (.read n) => g.runOp false (g.readWindow n k)
  | _ => g

/-- READ (R128). -/
def execRead (words : Nat) (s : State) : Host.Outcome State Fault Refusal :=
  onGateway (Gateway.opRead words) s

/-! ## WRITE (R129, R130) -/

/-- The indices and words of a WRITE, wrapping at the table's end (R129). -/
def writeTargets (t : Table) (start : Nat) (ws : List Word) : List (Nat × Word) :=
  ws.zipIdx.map fun wj => ((start + wj.2) % t.size, wj.1)

/-- A target index is protected (R130). -/
def Gateway.protectedTarget (g : Gateway) (t : Table) (i : Nat) (v : Word) : Bool :=
  match t with
  | .port =>
    let q := g.port (portOfIndex i)
    i % 8 == 7 || (i % 8 == 0 && q.state != .offline && rateCode v != rateCode q.words.control)
  | .route =>
    let w0 := routeWord g.route (i / 12) 0
    entryValid w0 && ((decide (1 ≤ i % 12) && decide (i % 12 ≤ 10)) ||
      (i % 12 == 0 && entryValid v && usePattern v != usePattern w0))
  | .counters => true
  | .events => true
  | .general => false
  | .group => false
  | .meter => false

/-- A target word carries no setting outside its range (R130). -/
def targetInRange (t : Table) (i : Nat) (v : Word) : Bool :=
  match t with
  | .port => portWordInRange (i % 8) v
  | .general => i != 10 || decide (poolMarkOf v ≤ 31)
  | .meter => meterWordInRange (i % 4) v
  | .group => true
  | .route => true
  | .counters => true
  | .events => true

/-- ROUTE after the targets are written; word 11 of an entry is cleared whatever is written (R75, R130). -/
def writeRouteWords (route : List Word) (targets : List (Nat × Word)) : List Word :=
  targets.foldl (fun r iw => r.set iw.1 (if iw.1 % 12 = 11 then 0 else iw.2)) route

/-- One PORT word written. -/
def Gateway.writePortWord (g : Gateway) (iw : Nat × Word) : Gateway :=
  g.modPort (portOfIndex iw.1) fun q => { q with words := q.words.set (iw.1 % 8) iw.2 }

/-- An OFFLINE port whose rate has changed (R22): the view resynchronises, a frame or slot is abandoned, and
the count of dominant bit times restarts (entry 16). -/
def Port.changeRate (q : Port) : Port :=
  { q with
    view := .resync 0
    rx := .rIdle
    role := .nonClaimant
    staging := none
    record := none }.setFault .stuckDominant false

/-- What a WRITE of PORT words does to a port (R19, R22, R43); `old` is the port before the operation. -/
def Gateway.portWritten (g : Gateway) (p : PortId) (old : Port) : Gateway :=
  let g :=
    if rateCode (g.port p).words.control ≠ rateCode old.words.control then g.modPort p Port.changeRate else g
  if old.state = .offline ∧ (g.port p).words.modeOnline then g.goOnline p
  else if old.online ∧ ¬ (g.port p).words.modeOnline then g.goOffline p
  else g

/-- A WRITE of PORT words (R43, R129). It reaches word 0 of one port only: between the two word 0s its indices
pass a word 7, which is protected (R129, R130). -/
def Gateway.writePort (g : Gateway) (targets : List (Nat × Word)) : Gateway :=
  ((targets.foldl Gateway.writePortWord g).portWritten .a (g.port .a)).portWritten .b (g.port .b)

/-- A WRITE of GENERAL words; POOL_LOW and ALERT are re-evaluated (R50, R52, R129, R175). -/
def Gateway.writeGeneral (g : Gateway) (targets : List (Nat × Word)) : Gateway :=
  ({ g with general := targets.foldl (fun (w : General) (iw : Nat × Word) => w.set iw.1 iw.2) g.general }).evalPool

/-- The operation writes the burst or the credit of meter `k`. -/
def writesCredit (targets : List (Nat × Word)) (k : Nat) : Bool :=
  targets.any fun iw => iw.1 / 4 == k && decide (2 ≤ iw.1 % 4)

/-- One METER word written (R113). -/
def writeMeterWord (ms : List Meter) (iw : Nat × Word) : List Meter :=
  ms.modify (iw.1 / 4) fun m => m.set (iw.1 % 4) iw.2

/-- A meter whose burst or credit was written: its credit is limited, and its holds re-test (R115). -/
def Gateway.meterWritten (targets : List (Nat × Word)) (g : Gateway) (k : Nat) : Gateway :=
  if writesCredit targets k then
    ({ g with meters := g.meters.modify k Meter.limited }).promptMeter k
  else g

/-- A WRITE of METER words (R113 to R115). -/
def Gateway.writeMeters (g : Gateway) (targets : List (Nat × Word)) : Gateway :=
  (List.range 16).foldl (Gateway.meterWritten targets) { g with meters := targets.foldl writeMeterWord g.meters }

/-- A WRITE of a table's targets, judged before (R129). -/
def Gateway.writeTable (g : Gateway) (t : Table) (targets : List (Nat × Word)) : Gateway :=
  match t with
  | .port => g.writePort targets
  | .general => g.writeGeneral targets
  | .group => { g with group := targets.foldl (fun (ws : List Word) (iw : Nat × Word) => ws.set iw.1 iw.2) g.group }
  | .meter => g.writeMeters targets
  | .route => { g with route := writeRouteWords g.route targets }
  | .counters => g
  | .events => g

/-- WRITE's judgement, in the order of R129, and its effect as one event (R73). The check of entries is made for
ROUTE only (entry 19). -/
def Gateway.writeWindow (g : Gateway) (ws : List Word) : OpOutcome :=
  let t := g.windowTable
  let targets := writeTargets t g.windowIndex ws
  if ws.length = 0 ∨ 32 < ws.length then .fail .badOperand
  else if targets.any fun iw => g.protectedTarget t iw.1 iw.2 then .fail .protectedWord
  else if targets.any fun iw => !targetInRange t iw.1 iw.2 then .fail .badOperand
  else if t = .route ∧ ¬ routeWellFormed (writeRouteWords g.route targets) then .fail .badEntry
  else .done .ok [] ws.length ((g.writeTable t targets).moveWindow ws.length)

/-- WRITE on the part. -/
def Gateway.opWrite (g : Gateway) : Gateway :=
  match g.currentOp with
  | some (.write ws) => g.runOp true fun _ => g.writeWindow ws
  | _ => g

/-- WRITE (R129, R130). -/
def execWrite (s : State) : Host.Outcome State Fault Refusal :=
  onGateway Gateway.opWrite s

/-- The WRITE that runs next brings port `p` into a state that meets `c`, from one that does not. -/
def Gateway.writeBrings (g : Gateway) (p : PortId) (c : Port → Bool) : Bool :=
  match g.currentOp with
  | some (.write ws) =>
    match g.writeWindow ws with
    | .done _ _ _ g' => g.execAccess == .full && !c (g.port p) && c (g'.port p)
    | .fail _ => false
    | .reading _ _ => false
  | _ => false

/-- The port is OFFLINE. -/
def Port.isOffline (q : Port) : Bool :=
  q.state = .offline

/-- PORT_OFFLINE on the part: the WRITE that takes port `p` OFFLINE (entry 6). -/
def Gateway.opPortOffline (p : PortId) (g : Gateway) : Gateway :=
  if g.writeBrings p Port.isOffline then g.opWrite else g

/-- PORT_OFFLINE (R21, R63): a write of mode OFFLINE. -/
def execPortOffline (p : PortId) (s : State) : Host.Outcome State Fault Refusal :=
  onGateway (Gateway.opPortOffline p) s

/-- PORT_ONLINE on the part: the WRITE that takes port `p` ONLINE (entry 6). -/
def Gateway.opPortOnline (p : PortId) (g : Gateway) : Gateway :=
  if g.writeBrings p Port.online then g.opWrite else g

/-- PORT_ONLINE (R22): a write of mode ONLINE. -/
def execPortOnline (p : PortId) (s : State) : Host.Outcome State Fault Refusal :=
  onGateway (Gateway.opPortOnline p) s

/-! ## GROUP SET and GROUP CLEAR (R132) -/

/-- The listed bins of a port's set take a value (R132). -/
def Gateway.writeBins (g : Gateway) (port : Byte) (bins : List Byte) (value : Bool) : OpOutcome :=
  if bins.length = 0 ∨ 16 < bins.length ∨ 1 < port.toNat ∨ bins.any fun b => decide (64 ≤ b.toNat) then
    .fail .badOperand
  else
    let p : PortId := if port = 0 then .a else .b
    .done .ok [] 0 { g with group := bins.foldl (fun ws b => writeBin p value ws b.toNat) g.group }

/-- GROUP SET on the part. -/
def Gateway.opGroupSet (g : Gateway) : Gateway :=
  match g.currentOp with
  | some (.groupSet port bins) => g.runOp true fun _ => g.writeBins port bins true
  | _ => g

/-- GROUP_SET (R132). -/
def execGroupSet (s : State) : Host.Outcome State Fault Refusal :=
  onGateway Gateway.opGroupSet s

/-- GROUP CLEAR on the part. -/
def Gateway.opGroupClear (g : Gateway) : Gateway :=
  match g.currentOp with
  | some (.groupClear port bins) => g.runOp true fun _ => g.writeBins port bins false
  | _ => g

/-- GROUP_CLEAR (R132). -/
def execGroupClear (s : State) : Host.Outcome State Fault Refusal :=
  onGateway Gateway.opGroupClear s

/-! ## COUNTERS and COUNTERS CLEAR (R133, R168) -/

/-- COUNTERS' effect, `k` words taken in this step (R133). -/
def Gateway.readBlock (g : Gateway) (block : Byte) (k : Nat) (ex : Execution) : OpOutcome :=
  if block.toNat ≤ 3 then
    ex.readWords (blockSize block.toNat) k (fun j => g.tableWord .counters (blockBase block.toNat + j)) .ok
      (fun _ => g) (fun _ => g)
  else .fail .badOperand

/-- COUNTERS on the part. -/
def Gateway.opCounters (k : Nat) (g : Gateway) : Gateway :=
  match g.currentOp with
  | some (.counters block) => g.runOp false (g.readBlock block k)
  | _ => g

/-- COUNTERS (R133). -/
def execCounters (words : Nat) (s : State) : Host.Outcome State Fault Refusal :=
  onGateway (Gateway.opCounters words) s

/-- The counters with a block at 0 (R168). -/
def clearBlock (counters : List Word) (block : Nat) : List Word :=
  (List.range (blockSize block)).foldl (fun ws j => ws.set (blockBase block + j) 0) counters

/-- COUNTERS CLEAR's effect (R133, R168). -/
def Gateway.clearCounters (g : Gateway) (block : Byte) : OpOutcome :=
  if block.toNat ≤ 3 then .done .ok [] 0 { g with counters := clearBlock g.counters block.toNat }
  else .fail .badOperand

/-- COUNTERS CLEAR on the part. -/
def Gateway.opCountersClear (g : Gateway) : Gateway :=
  match g.currentOp with
  | some (.countersClear block) => g.runOp true fun _ => g.clearCounters block
  | _ => g

/-- COUNTERS_CLEAR (R133, R168). -/
def execCountersClear (s : State) : Host.Outcome State Fault Refusal :=
  onGateway Gateway.opCountersClear s

/-! ## EVENTS READ, EVENTS CLEAR, EVENTS MASK (R134, R174, R175) -/

/-- EVENTS READ on the part, `k` words taken in this step. -/
def Gateway.opEventsRead (k : Nat) (g : Gateway) : Gateway :=
  match g.currentOp with
  | some .eventsRead =>
    g.runOp false fun ex => ex.readWords 6 k g.eventWord .ok (fun _ => g) (fun _ => g)
  | _ => g

/-- EVENTS_READ (R134). -/
def execEventsRead (words : Nat) (s : State) : Host.Outcome State Fault Refusal :=
  onGateway (Gateway.opEventsRead words) s

/-- The listed flags cleared and ALERT re-evaluated (R174, R176). -/
def Gateway.clearFlags (g : Gateway) (w0 w1 : Word) : Gateway :=
  ({ g with monitor := g.monitor.clear w0 w1 }).alertEval

/-- EVENTS CLEAR on the part. -/
def Gateway.opEventsClear (g : Gateway) : Gateway :=
  match g.currentOp with
  | some (.eventsClear w0 w1) => g.runOp true fun _ => .done .ok [] 2 (g.clearFlags w0 w1)
  | _ => g

/-- EVENTS_CLEAR (R134, R174). -/
def execEventsClear (s : State) : Host.Outcome State Fault Refusal :=
  onGateway Gateway.opEventsClear s

/-- Both mask words replaced and ALERT re-evaluated (R175, R176). -/
def Gateway.replaceMasks (g : Gateway) (w0 w1 : Word) : Gateway :=
  ({ g with general := { g.general with mask0 := w0, mask1 := w1 } }).alertEval

/-- EVENTS MASK on the part. -/
def Gateway.opEventsMask (g : Gateway) : Gateway :=
  match g.currentOp with
  | some (.eventsMask w0 w1) => g.runOp true fun _ => .done .ok [] 2 (g.replaceMasks w0 w1)
  | _ => g

/-- EVENTS_MASK (R134, R175). -/
def execEventsMask (s : State) : Host.Outcome State Fault Refusal :=
  onGateway Gateway.opEventsMask s

/-! ## CAPTURE TAKE (R136) -/

/-- The ingress port byte of a captured frame (R184). -/
def portByte : PortId → Byte
  | .a => 0
  | .b => 1

/-- The capture queue without its head, the buffer returned and the frame counted (R136). -/
def Gateway.dropCapture (g : Gateway) : Gateway :=
  let g := { g with capture := g.capture.tail }
  (((g.giveBack 1).evalPool.countDevice .captureTaken).evalCapture).promptCapture

/-- CAPTURE TAKE's effect (R136): the payload is cut to the space that remains. -/
def Gateway.takeCapture (g : Gateway) (ex : Execution) : OpOutcome :=
  match g.capture with
  | [] => .fail .empty
  | b :: _ =>
    let fixed := portByte b.ingress :: (b.frame.header ++ b.frame.tagBytes)
    if ex.fits fixed.length then
      let room := ex.space - 2 - fixed.length
      let status := if b.frame.payload.length ≤ room then OpStatus.ok else OpStatus.short
      .done status (fixed ++ b.frame.payload.take room) 0 g.dropCapture
    else .fail .replyFull

/-- CAPTURE TAKE on the part. -/
def Gateway.opCaptureTake (g : Gateway) : Gateway :=
  match g.currentOp with
  | some .captureTake => g.runOp true g.takeCapture
  | _ => g

/-- CAPTURE_TAKE (R136). -/
def execCaptureTake (s : State) : Host.Outcome State Fault Refusal :=
  onGateway Gateway.opCaptureTake s

end Sys2Proof.Machine
end

