-- ==== Sys2Proof/Machine/StoreOps.lean ====
section
/-! DEFINITION. The store operations and completions: STORE_SELECT, STORE_READ, STORE_FILL, STORE_STAGE,
STORE_ERASE, STORE_WRITE, STORE_STATUS, RESTART, STORE_ERASE_COMPLETE, STORE_WRITE_COMPLETE (R137 to R143,
R149 to R155). -/

namespace Sys2Proof.Machine

/-- The store is busy (R149). -/
def Store.busy (s : Store) : Bool :=
  s.state != .sIdle

/-! ## STORE SELECT, STORE READ, STORE FILL (R137, R138) -/

/-- The store address set; another page clears the page buffer (R137, R151). -/
def Store.select (s : Store) (page word : Nat) : Store :=
  if page = s.page then { s with word := word }
  else { s with page := page, word := word, buffer := Store.clearBuffer }

/-- STORE SELECT's effect (R137). -/
def Gateway.selectStore (g : Gateway) (page word : Byte) : OpOutcome :=
  if g.store.busy then .fail .storeInUse
  else if 63 < page.toNat ∨ 15 < word.toNat then .fail .badOperand
  else .done .ok [] 0 { g with store := g.store.select page.toNat word.toNat }

/-- STORE SELECT on the part. -/
def Gateway.opStoreSelect (g : Gateway) : Gateway :=
  match g.currentOp with
  | some (.storeSelect page word) => g.runOp false fun _ => g.selectStore page word
  | _ => g

/-- STORE_SELECT (R137). -/
def execStoreSelect (s : State) : Host.Outcome State Fault Refusal :=
  onGateway Gateway.opStoreSelect s

/-- The word address `n` words on, staying at 15 (R138, R150). -/
def Store.advance (s : Store) (n : Nat) : Store :=
  { s with word := min 15 (s.word + n) }

/-- STORE READ's effect, `k` of its words taken in this step (R138): the words of the selected page from the
store, stopping after word 15. -/
def Gateway.readStore (g : Gateway) (n k : Nat) (ex : Execution) : OpOutcome :=
  if n = 0 ∨ 16 < n then .fail .badOperand
  else if g.store.busy then .fail .storeInUse
  else
    let j := ex.taken.length
    let total := j + min (n - j) (16 - g.store.word)
    let page := g.store.pageAt g.store.page
    let step := fun m => { g with store := g.store.advance m }
    ex.readWords total k (fun i => page.read (g.store.word + (i - j)))
      (if total < n then .short else .ok) step step

/-- STORE READ on the part. -/
def Gateway.opStoreRead (k : Nat) (g : Gateway) : Gateway :=
  match g.currentOp with
  | some (.storeRead n) => g.runOp false (g.readStore n k)
  | _ => g

/-- STORE_READ (R138). -/
def execStoreRead (words : Nat) (s : State) : Host.Outcome State Fault Refusal :=
  onGateway (Gateway.opStoreRead words) s

/-- Words placed into the page buffer from word `w` on, each marked (R138, R151). -/
def placeWords (buffer : List BufferWord) (w : Nat) : List Word → List BufferWord
  | [] => buffer
  | v :: rest => placeWords (buffer.set w ⟨v, true⟩) (w + 1) rest

/-- STORE FILL's effect (R138): operand words beyond word 15 are discarded. -/
def Gateway.fillStore (g : Gateway) (ws : List Word) : OpOutcome :=
  if ws.length = 0 ∨ 16 < ws.length then .fail .badOperand
  else if g.store.busy then .fail .storeInUse
  else
    let placed := ws.take (16 - g.store.word)
    let store := { g.store with buffer := placeWords g.store.buffer g.store.word placed }
    .done (if placed.length < ws.length then .short else .ok) [] placed.length
      { g with store := store.advance placed.length }

/-- STORE FILL on the part. -/
def Gateway.opStoreFill (g : Gateway) : Gateway :=
  match g.currentOp with
  | some (.storeFill ws) => g.runOp true fun _ => g.fillStore ws
  | _ => g

/-- STORE_FILL (R138). -/
def execStoreFill (s : State) : Host.Outcome State Fault Refusal :=
  onGateway Gateway.opStoreFill s

/-! ## STORE STAGE (R139, R157) -/

/-- The live word the image map assigns to word `w` of page `n`, 0 where none (R139, R157). -/
def Gateway.imageWord (g : Gateway) (n w : Nat) : Word :=
  if n = 1 then g.tableWord .port w
  else if n = 2 then (if w < 11 then g.tableWord .general w else 0)
  else if n = 3 then (if w < 8 then g.tableWord .group w else 0)
  else if n ≤ 7 then g.tableWord .meter (16 * (n - 4) + w)
  else g.tableWord .route (16 * (n - 8) + w)

/-- STORE STAGE's effect (R139). -/
def Gateway.stageStore (g : Gateway) : OpOutcome :=
  if g.store.busy then .fail .storeInUse
  else if g.store.page = 0 ∨ 56 ≤ g.store.page then .fail .badOperand
  else
    let buffer := (List.range 16).map fun w => (⟨g.imageWord g.store.page w, true⟩ : BufferWord)
    .done .ok [] 16 { g with store := { g.store with word := 15, buffer := buffer } }

/-- STORE STAGE on the part. -/
def Gateway.opStoreStage (g : Gateway) : Gateway :=
  match g.currentOp with
  | some .storeStage => g.runOp true fun _ => g.stageStore
  | _ => g

/-- STORE_STAGE (R139). -/
def execStoreStage (s : State) : Host.Outcome State Fault Refusal :=
  onGateway Gateway.opStoreStage s

/-! ## STORE ERASE and STORE WRITE (R140, R152, R154) -/

/-- An erase or write of the selected page begins (R152, R154). -/
def Gateway.startStore (g : Gateway) (kind : StoreOp) (state : StoreState) : Gateway :=
  ({ g with
    store := { g.store with state := state, inFlight := some (kind, g.store.page), timer := 0 } }).evalStoreBusy

/-- STORE ERASE's effect (R140, R152). -/
def Gateway.startErase (g : Gateway) : OpOutcome :=
  if g.store.busy then .fail .storeInUse
  else if g.store.page = 0 then .fail .protectedWord
  else .done .ok [] 0 (g.startStore .erase .sErasing)

/-- STORE ERASE on the part. -/
def Gateway.opStoreErase (g : Gateway) : Gateway :=
  match g.currentOp with
  | some .storeErase => g.runOp true fun _ => g.startErase
  | _ => g

/-- STORE_ERASE (R140, R152). -/
def execStoreErase (s : State) : Host.Outcome State Fault Refusal :=
  onGateway Gateway.opStoreErase s

/-- STORE WRITE's effect (R140, R154). -/
def Gateway.startWrite (g : Gateway) : OpOutcome :=
  if g.store.busy then .fail .storeInUse
  else if g.store.page = 0 then .fail .protectedWord
  else if (g.store.pageAt g.store.page).state ≠ .erased then .fail .notErased
  else .done .ok [] 0 (g.startStore .write .sWriting)

/-- STORE WRITE on the part. -/
def Gateway.opStoreWrite (g : Gateway) : Gateway :=
  match g.currentOp with
  | some .storeWrite => g.runOp true fun _ => g.startWrite
  | _ => g

/-- STORE_WRITE (R140, R154). -/
def execStoreWrite (s : State) : Host.Outcome State Fault Refusal :=
  onGateway Gateway.opStoreWrite s

/-! ## STORE STATUS (R141, R184) -/

/-- Word 0 of STORE STATUS. -/
def StoreState.code : StoreState → Word
  | .sIdle => 0
  | .sErasing => 1
  | .sWriting => 2

/-- Word 1 of STORE STATUS: the kind in bits 9-8, the page in bits 5-0. -/
def lastCode : Option (StoreOp × Nat) → Word
  | none => 0
  | some (.erase, n) => atBit 1 8 ||| atBit n 0
  | some (.write, n) => atBit 2 8 ||| atBit n 0

/-- Word 2 of STORE STATUS. -/
def PageState.code : PageState → Word
  | .erased => 0
  | .written => 1
  | .torn => 2

/-- The four words of STORE STATUS (R141, R184). -/
def Store.statusWords (s : Store) : List Word :=
  [s.state.code, lastCode s.last, (s.pageAt s.page).state.code, atBit s.page 8 ||| atBit s.word 0]

/-- STORE STATUS' effect: its words, taken together (R141). -/
def Gateway.statusStore (g : Gateway) (ex : Execution) : OpOutcome :=
  if ex.fits 8 then .done .ok (wordsBytes g.store.statusWords) 0 g else .fail .replyFull

/-- STORE STATUS on the part. -/
def Gateway.opStoreStatus (g : Gateway) : Gateway :=
  match g.currentOp with
  | some .storeStatus => g.runOp false g.statusStore
  | _ => g

/-- STORE_STATUS (R141). -/
def execStoreStatus (s : State) : Host.Outcome State Fault Refusal :=
  onGateway Gateway.opStoreStatus s

/-! ## RESTART (R142, R143) -/

/-- A RESTART that succeeds: the restart is pending for this request's reply, the later operations are
SKIPPED, and execution ends with status RESTARTING (R142, entry 9). -/
def Gateway.beginRestart (g : Gateway) (ex : Execution) : Gateway :=
  ({ g with restart := .pending }).endExecution
    { ex with
      results := ex.results ++ resultBytes .ok [] ++ skippedResults ex.ops.tail
      ops := []
      taken := [] } .restarting

/-- RESTART on the part: access, then the store (R137, R142). -/
def Gateway.opRestart (g : Gateway) : Gateway :=
  match g.currentOp, g.exec with
  | some .restart, some ex =>
    if g.execAccess = .full ∧ ¬ g.store.busy then (g.beginRestart ex).settle
    else g.runOp true fun _ => .fail .storeInUse
  | _, _ => g

/-- RESTART (R142). -/
def execRestart (s : State) : Host.Outcome State Fault Refusal :=
  onGateway Gateway.opRestart s

/-! ## Completions (R153, R155) -/

/-- The store after an erase of `n` completes (R153); its timer stops (entry 32). -/
def Store.erased (s : Store) (n : Nat) : Store :=
  { s with
    pages := s.pages.set n ⟨.erased, List.replicate 16 0⟩
    inFlight := none
    state := .sIdle
    timer := 0
    last := some (.erase, n) }

/-- The words a write programs: the marked ones with their value, the others 0 (R140, R151). -/
def Store.programmed (s : Store) : List Word :=
  s.buffer.map fun b => if b.marked then b.value else 0

/-- The store after a write of `n` completes (R155); its timer stops (entry 32). -/
def Store.written (s : Store) (n : Nat) : Store :=
  { s with
    pages := s.pages.set n ⟨.written, s.programmed⟩
    inFlight := none
    state := .sIdle
    timer := 0
    last := some (.write, n)
    buffer := Store.clearBuffer }

/-- A completion handed on: STORE_DONE, then the fall of STORE_BUSY (R153, R155). -/
def Gateway.completed (g : Gateway) (store : Store) : Gateway :=
  ((({ g with store := store }).latch .storeDone).evalStoreBusy).settle

/-- STORE_ERASE_COMPLETE on the part: at the 20th tick. -/
def Gateway.eraseComplete (g : Gateway) : Gateway :=
  if g.store.state = .sErasing ∧ 20 ≤ g.store.timer then g.completed (g.store.erased g.store.page) else g

/-- STORE_ERASE_COMPLETE (R153). -/
def execStoreEraseComplete (s : State) : Host.Outcome State Fault Refusal :=
  onGateway Gateway.eraseComplete s

/-- STORE_WRITE_COMPLETE on the part: at the 12th tick. -/
def Gateway.writeComplete (g : Gateway) : Gateway :=
  if g.store.state = .sWriting ∧ 12 ≤ g.store.timer then g.completed (g.store.written g.store.page) else g

/-- STORE_WRITE_COMPLETE (R155). -/
def execStoreWriteComplete (s : State) : Host.Outcome State Fault Refusal :=
  onGateway Gateway.writeComplete s

end Sys2Proof.Machine
end

