-- ==== Sys2Proof/Machine/Dispatch.lean ====
section
/-! DEFINITION. One arm per command: a direct call of its meaning. -/

namespace Sys2Proof.Machine

/-- The effect of a command on everything but the queue. -/
def exec (i : Instr) (s : State) : Host.Outcome State Fault Refusal :=
  match i with
  | .powerOnReset => Sys2Proof.Machine.execPowerOnReset s
  | .lineReset => Sys2Proof.Machine.execLineReset s
  | .resetRelease => Sys2Proof.Machine.execResetRelease s
  | .bootPageLoad => Sys2Proof.Machine.execBootPageLoad s
  | .bootLoadEnd => Sys2Proof.Machine.execBootLoadEnd s
  | .requestReset => Sys2Proof.Machine.execRequestReset s
  | .tick => Sys2Proof.Machine.execTick s
  | .lineFaultChange p cause present => Sys2Proof.Machine.execLineFaultChange p cause present s
  | .linkUp p => Sys2Proof.Machine.execLinkUp p s
  | .linkDown p => Sys2Proof.Machine.execLinkDown p s
  | .busIdle p bits => Sys2Proof.Machine.execBusIdle p bits s
  | .receiveCompletion p bytes check => Sys2Proof.Machine.execReceiveCompletion p bytes check s
  | .symbolError p => Sys2Proof.Machine.execSymbolError p s
  | .lengthOutOfRange p length => Sys2Proof.Machine.execLengthOutOfRange p length s
  | .pauseRx p => Sys2Proof.Machine.execPauseRx p s
  | .holdRetest p => Sys2Proof.Machine.execHoldRetest p s
  | .holdExpiry p => Sys2Proof.Machine.execHoldExpiry p s
  | .pauseExpiry p => Sys2Proof.Machine.execPauseExpiry p s
  | .transmitStart p point => Sys2Proof.Machine.execTransmitStart p point s
  | .arbLost p => Sys2Proof.Machine.execArbLost p s
  | .collision p => Sys2Proof.Machine.execCollision p s
  | .transmitOutcome p slot => Sys2Proof.Machine.execTransmitOutcome p slot s
  | .holdBeyondTolerance p => Sys2Proof.Machine.execHoldBeyondTolerance p s
  | .requestDecode => Sys2Proof.Machine.execRequestDecode s
  | .replyReoffer p => Sys2Proof.Machine.execReplyReoffer p s
  | .ident words => Sys2Proof.Machine.execIdent words s
  | .select => Sys2Proof.Machine.execSelect s
  | .read words => Sys2Proof.Machine.execRead words s
  | .write => Sys2Proof.Machine.execWrite s
  | .portOffline p => Sys2Proof.Machine.execPortOffline p s
  | .portOnline p => Sys2Proof.Machine.execPortOnline p s
  | .groupSet => Sys2Proof.Machine.execGroupSet s
  | .groupClear => Sys2Proof.Machine.execGroupClear s
  | .counters words => Sys2Proof.Machine.execCounters words s
  | .countersClear => Sys2Proof.Machine.execCountersClear s
  | .eventsRead words => Sys2Proof.Machine.execEventsRead words s
  | .eventsClear => Sys2Proof.Machine.execEventsClear s
  | .eventsMask => Sys2Proof.Machine.execEventsMask s
  | .captureTake => Sys2Proof.Machine.execCaptureTake s
  | .storeSelect => Sys2Proof.Machine.execStoreSelect s
  | .storeRead words => Sys2Proof.Machine.execStoreRead words s
  | .storeFill => Sys2Proof.Machine.execStoreFill s
  | .storeStage => Sys2Proof.Machine.execStoreStage s
  | .storeErase => Sys2Proof.Machine.execStoreErase s
  | .storeWrite => Sys2Proof.Machine.execStoreWrite s
  | .storeStatus => Sys2Proof.Machine.execStoreStatus s
  | .restart => Sys2Proof.Machine.execRestart s
  | .storeEraseComplete => Sys2Proof.Machine.execStoreEraseComplete s
  | .storeWriteComplete => Sys2Proof.Machine.execStoreWriteComplete s
  | .startBit p => Sys2Proof.Machine.execStartBit p s
  | .endDelimiter p => Sys2Proof.Machine.execEndDelimiter p s

end Sys2Proof.Machine
end

