-- ==== Sys2Proof/Safety.lean ====
section
/-! DEFINITION. What holds of the part between any two events: the invariants of the model. -/

namespace Sys2Proof.Machine

/-! ## The pool (R46, R53, R118, R135) -/

/-- The pool buffers that hold a frame, over all their places (R46). -/
def Gateway.heldBuffers (g : Gateway) : Nat :=
  g.portA.egressCount + g.portB.egressCount + g.agentQueue.length + g.capture.length

/-- Every buffer is on the free list or in one place, and no place is over its size (R46). -/
abbrev Gateway.PoolOk (g : Gateway) : Prop :=
  g.free + g.heldBuffers = poolSize ∧ g.portA.egressCount ≤ egressCap ∧ g.portB.egressCount ≤ egressCap ∧
    g.agentQueue.length ≤ agentCap ∧ g.capture.length ≤ captureCap

/-! ## The Event Monitor (R169, R171, R176) -/

/-- ALERT is asserted exactly while at least one latched flag is unmasked (R176). -/
abbrev Gateway.AlertOk (g : Gateway) : Prop :=
  g.monitor.alert = g.asserts

/-- A flag position that belongs to no source is never latched (R169, R189). -/
abbrev Gateway.FlagsOk (g : Gateway) : Prop :=
  g.monitor.flags0 &&& 0xF000 = 0 ∧ g.monitor.flags1 &&& 0xFC00 = 0

/-- The level history holds the present level of each condition (R171). -/
abbrev Gateway.LevelsOk (g : Gateway) : Prop :=
  g.monitor.history =
    ⟨g.portA.linkUp, g.portB.linkUp, g.poolLow, !g.capture.isEmpty, g.store.busy⟩

/-! ## Phases and ports (R19, R20, R23, R29, R44) -/

/-- A STARTING port is R_IDLE with its link level down (R23). -/
abbrev Port.StartingOk (q : Port) : Prop :=
  q.state = .starting → q.rx = .rIdle ∧ q.linkUp = false

/-- The ports are STARTING exactly while the part is not running, and only a running part executes a request
(R19, R23, R146, R165). -/
abbrev Gateway.PhaseOk (g : Gateway) : Prop :=
  (g.portA.state = .starting ↔ g.phase ≠ .running) ∧ (g.portB.state = .starting ↔ g.phase ≠ .running) ∧
    (g.phase ≠ .running → g.exec = none)

/-- The PORT words 0-6 hold values in their ranges and no bit that belongs to no setting (R42, R43). -/
abbrev PortWords.InRange (w : PortWords) : Prop :=
  ∀ k < 7, portWordInRange k (w.get k) = true ∧ w.get k &&& portMask k = w.get k

/-- A port that is not ONLINE holds nothing to send and is RUNNING with no request (R20, R21, R23). -/
abbrev Port.QuietWhenOut (q : Port) : Prop :=
  q.online = true ∨
    (q.egressCount = 0 ∧ q.slot = .empty ∧ q.tx = .tIdle ∧ q.pause = .running ∧ q.pendingPause = false)

/-- The transmit side agrees with its slot, and the attempt count is one that can be read (R29, R44). -/
abbrev Port.TransmitOk (q : Port) : Prop :=
  (q.slot = .empty ↔ q.tx = .tIdle) ∧ (q.slot = .empty → q.attempts = 0) ∧ q.attempts ≤ 15 ∧
    (q.sending.isSome = true ↔ q.tx.onLine = true) ∧ (q.tx.onLine = true → q.state = .active)

/-- A port drives an abort pattern only while ACTIVE and off the frame, its view resynchronising from zero (R11,
R20, R31). -/
abbrev Port.AbortOk (q : Port) : Prop :=
  q.abort ≠ [] →
    q.abort = abortPattern ∧ q.state = .active ∧ q.view = .resync 0 ∧ q.rx = .rIdle ∧ q.tx.onLine = false

/-- Out of STARTING the mode field of word 0 names the state: ONLINE in either substate, or OFFLINE (R19). -/
abbrev Port.ModeOk (q : Port) : Prop :=
  q.state ≠ .starting → q.words.modeOnline = q.online

/-- The port sends no frame of its own while it receives one, and its view agrees with its two sides (R3, R4,
R24, R29). -/
abbrev Port.LineOk (q : Port) : Prop :=
  (q.tx.onLine = true → q.rx = .rIdle) ∧ (q.rx = .rFrame → q.view = .inFrame) ∧
    (q.rx = .rSlot → q.view = .inSlot) ∧ (q.tx = .tArb ∨ q.tx = .tSend → q.view = .inFrame) ∧
    (q.tx = .tSlot → q.view = .inSlot) ∧
    (q.view = .inFrame ∨ q.view = .inSlot → q.tx.onLine = true ∨ q.rx ≠ .rIdle)

/-- A port that holds is ACTIVE, in a slot, with its frame in staging and a record that says HOLDING
(R24, R27, R65). -/
abbrev Port.HoldOk (q : Port) : Prop :=
  q.isHolding = true →
    q.state = .active ∧ q.rx = .rSlot ∧ q.view = .inSlot ∧ q.staging.isSome = true ∧
      q.record.map DecisionRecord.outcome = some .holding

/-- The ages of queued frames stay in their range (R54). -/
abbrev Port.AgesOk (q : Port) : Prop :=
  ∀ e ∈ q.urgent ++ q.normal, e.age ≤ 65535

/-- What holds of a port. -/
abbrev Port.Ok (q : Port) : Prop :=
  q.words.InRange ∧ q.StartingOk ∧ q.ModeOk ∧ q.QuietWhenOut ∧ q.TransmitOk ∧ q.AbortOk ∧ q.LineOk ∧ q.HoldOk ∧
    q.AgesOk ∧ q.linkCount ≤ 255

/-- Phase and ports together. -/
abbrev Gateway.PortsOk (g : Gateway) : Prop :=
  g.PhaseOk ∧ g.portA.Ok ∧ g.portB.Ok

/-! ## Tables (R71, R81, R102, R127, R167) -/

/-- A meter's credit lies between 0 and its burst, the burst is not 0 and the rate is in range (R102). -/
abbrev Meter.Ok (m : Meter) : Prop :=
  m.credit.toNat ≤ m.burst.toNat ∧ 1 ≤ m.burst.toNat ∧ m.rate.toNat ≤ 4095 ∧ m.control &&& 0x8003 = m.control

/-- The 16 meters. -/
abbrev Gateway.MetersOk (g : Gateway) : Prop :=
  g.meters.length = 16 ∧ ∀ m ∈ g.meters, m.Ok

/-- Once the Boot Load has settled the table, every valid entry is well-formed (R71, R164). -/
abbrev Gateway.RouteOk (g : Gateway) : Prop :=
  g.route.length = 768 ∧ (g.phase = .running → routeWellFormed g.route = true)

/-- The other tables keep their sizes, the window stands inside its table, and the pool-low mark is in range
(R52, R127). -/
abbrev Gateway.TablesOk (g : Gateway) : Prop :=
  g.group.length = 8 ∧ g.counters.length = 48 ∧ g.windowIndex < g.windowTable.size ∧ g.general.poolMark ≤ 31

/-! ## The agent (R118, R119, R125, R143) -/

/-- One EXECUTING entry while a request executes, none otherwise (R119). -/
abbrev Gateway.AgentOk (g : Gateway) : Prop :=
  g.agentQueue.countP AgentEntry.isExecuting = (if g.exec.isSome then 1 else 0)

/-! ## The store (R147 to R151) -/

/-- The store keeps its sizes, its address in range, and its state in step with its in-flight record; no
record names page 0, and a page being written is ERASED (R148, R149, R150). -/
abbrev Store.Ok (s : Store) : Prop :=
  s.pages.length = 64 ∧ (∀ page ∈ s.pages, page.words.length = 16) ∧ s.buffer.length = 16 ∧
    s.page < 64 ∧ s.word < 16 ∧ s.inFlight.map Prod.snd ≠ some 0 ∧
    (s.state = .sErasing → s.inFlight = some (.erase, s.page)) ∧
    (s.state = .sWriting → s.inFlight = some (.write, s.page) ∧ (s.pageAt s.page).state = .erased)

/-- The store, and with it: an idle store of a running part has nothing in flight (R149, R165). -/
abbrev Gateway.StoreOk (g : Gateway) : Prop :=
  g.store.Ok ∧ (g.phase = .running → g.store.state = .sIdle → g.store.inFlight = none) ∧
    (g.phase ≠ .running → g.store.state = .sIdle)

/-! ## Egress selection (R57, R58) -/

/-- A port that may select has nothing to select: an ACTIVE port with an empty slot has no pending PAUSE
request, and when it is RUNNING its queues are empty. -/
abbrev Port.Settled (q : Port) : Prop :=
  q.state = .active → q.slot = .empty →
    q.pendingPause = false ∧ (q.pause = .running → q.urgent = [] ∧ q.normal = [])

/-- No egress selection is due on either port. -/
abbrev Gateway.Settled (g : Gateway) : Prop :=
  g.portA.Settled ∧ g.portB.Settled

/-! ## What a command leaves unchanged -/

/-- The parts of the state. -/
inductive Part where
  | phase
  | loadFault
  | startCause
  | portA
  | portB
  | free
  | general
  | group
  | meters
  | route
  | counters
  | agentQueue
  | exec
  | restart
  | window
  | capture
  | store
  | monitor
  deriving DecidableEq, Repr

/-- A part is the same in two states of the gateway. -/
def Part.Same (g t : Gateway) : Part → Prop
  | .phase => t.phase = g.phase
  | .loadFault => t.loadFault = g.loadFault
  | .startCause => t.startCause = g.startCause
  | .portA => t.portA = g.portA
  | .portB => t.portB = g.portB
  | .free => t.free = g.free
  | .general => t.general = g.general
  | .group => t.group = g.group
  | .meters => t.meters = g.meters
  | .route => t.route = g.route
  | .counters => t.counters = g.counters
  | .agentQueue => t.agentQueue = g.agentQueue
  | .exec => t.exec = g.exec
  | .restart => t.restart = g.restart
  | .window => t.windowTable = g.windowTable ∧ t.windowIndex = g.windowIndex
  | .capture => t.capture = g.capture
  | .store => t.store = g.store
  | .monitor => t.monitor = g.monitor

/-- Every part but the listed ones is the same. -/
def AllBut (parts : List Part) (g t : Gateway) : Prop :=
  ∀ x : Part, x ∉ parts → Part.Same g t x

/-- The part that is a port. -/
def portPart : PortId → Part
  | .a => .portA
  | .b => .portB

/-- The parts that latching a flag can change, a notice it asks for included (R170, R177, R178). -/
def latchParts : List Part :=
  [.portA, .portB, .free, .monitor]

/-- The parts that the end of an execution and the selections it prompts can change (R119, R126, R57). -/
def replyParts : List Part :=
  [.portA, .portB, .free, .monitor, .counters, .agentQueue, .exec, .restart]

/-- Exactly one counter has risen, by one (R167). -/
def Counted (i : Nat) (g t : Gateway) : Prop :=
  t.counters = g.counters.set i (g.counters.getD i 0 + 1)

/-- The listed counters have risen, by one each, and no other (R167). -/
def CountedAll (is : List Nat) (g t : Gateway) : Prop :=
  t.counters = is.foldl (fun cs i => cs.set i (cs.getD i 0 + 1)) g.counters

/-- A source's flag is latched (R170). -/
def Latched (src : Source) (t : Gateway) : Prop :=
  t.monitor.flags0 &&& src.mask0 = src.mask0 ∧ t.monitor.flags1 &&& src.mask1 = src.mask1

/-- A request is executing, decoded, and `op` is the operation that runs next (R120, R123). -/
def Gateway.Runs (g : Gateway) (ex : Execution) (op : Op) : Prop :=
  g.exec = some ex ∧ ex.decoded = true ∧ ex.ops.head? = some op

/-- The execution after its current operation succeeded with some data, having counted words (R120, R125). -/
def Execution.after (ex : Execution) (status : OpStatus) (data : List Byte) (words : Nat) : Execution :=
  { ex with
    results := ex.results ++ [status.code, BitVec.ofNat 8 data.length] ++ data
    ops := ex.ops.tail
    taken := []
    words := ex.words + words }

/-! ## What a completed frame meets (R65, R66, R74, R76) -/

/-- A good frame is being received on an ACTIVE port (R8, R24). -/
def Gateway.Receives (g : Gateway) (p : PortId) (f : Frame) : Prop :=
  (g.port p).state = .active ∧ (g.port p).rx = .rFrame ∧ f.fits = true ∧ f.illegal = false

/-- The command that completes a frame with the check computed over its bytes. -/
def completion (p : PortId) (f : Frame) : Instr :=
  .receiveCompletion p f.bytes (crc f.bytes)

/-- The own address that takes the frame as management on this port (R66, R67). -/
def Gateway.takes (g : Gateway) (p : PortId) (f : Frame) : Option OwnAddress :=
  managementMatch g.general (g.port p).words.access f

/-- The frame goes through the lookup (R66). -/
def Gateway.Routes (g : Gateway) (p : PortId) (f : Frame) : Prop :=
  f.kind ≠ kindPause ∧ g.takes p f = none

/-- The decision record the lookup or the default action gives (R74, R76). -/
def Gateway.routeRecord (g : Gateway) (p : PortId) (f : Frame) : DecisionRecord :=
  match lookup g.route p f with
  | some e => DecisionRecord.ofEntry g.route e (g.port p).words.access f
  | none => DecisionRecord.ofDefault (g.port p).words.defaultAction (g.port p).words.access f

/-- The Route Table after the lookup: the winning entry's hit count one higher (R75). -/
def Gateway.routeHit (g : Gateway) (p : PortId) (f : Frame) : List Word :=
  match lookup g.route p f with
  | some e => bumpHit g.route e
  | none => g.route

/-- The first three checks of a FORWARD frame pass (R79). -/
def Gateway.Crosses (g : Gateway) (p : PortId) (r : DecisionRecord) (f : Frame) : Prop :=
  r.action = some .forward ∧ f.hop ≠ 0 ∧ g.groupPasses p r f = true ∧ (g.port p.other).state = .active

/-- A PAUSE ask has reached port `p`, whose slot was `q.slot` (R38): with a pause count of 0 it is ignored; a full
slot keeps the request pending, or absorbs it while the port's own PAUSE frame is in it; an empty slot takes the PAUSE
frame at once (R39, R57, R58, R181). -/
def Gateway.AskTaken (g t : Gateway) (p : PortId) : Prop :=
  let q := g.port p
  let asked := q.words.pauseCount ≠ 0
  (q.slot ≠ .empty →
    (t.port p).slot = q.slot ∧
      ((t.port p).pendingPause = true ↔ q.pendingPause = true ∨ (asked ∧ ∃ b, q.slot = .pool b))) ∧
    (q.slot = .empty → ¬ asked → (t.port p).slot = .empty ∧ (t.port p).pendingPause = false) ∧
    (q.slot = .empty → asked →
      (t.port p).pendingPause = false ∧ (t.port p).tx = .tWaitIdle ∧ (t.port p).attempts = 0 ∧
        (t.port p).slot = .pause
          { dest := 0xFFFF
            src := g.general.own1Value &&& 0x7FFF
            service := 0
            kind := 3
            hop := 7
            spare := false
            tag := none
            payload := wordBytes q.words.pauseCount })

/-- The bytes of an operation in a request (R182). -/
def Op.bytes : Op → List Byte
  | .ident => [0x01]
  | .select table index => 0x02 :: table :: wordBytes index
  | .read n => [0x03, BitVec.ofNat 8 n]
  | .write words => 0x04 :: BitVec.ofNat 8 words.length :: wordsBytes words
  | .groupSet port bins => 0x05 :: port :: BitVec.ofNat 8 bins.length :: bins
  | .groupClear port bins => 0x06 :: port :: BitVec.ofNat 8 bins.length :: bins
  | .counters block => [0x07, block]
  | .countersClear block => [0x08, block]
  | .eventsRead => [0x09]
  | .eventsClear w0 w1 => 0x0A :: (wordBytes w0 ++ wordBytes w1)
  | .eventsMask w0 w1 => 0x0B :: (wordBytes w0 ++ wordBytes w1)
  | .captureTake => [0x0C]
  | .storeSelect page word => [0x10, page, word]
  | .storeRead n => [0x11, BitVec.ofNat 8 n]
  | .storeFill words => 0x12 :: BitVec.ofNat 8 words.length :: wordsBytes words
  | .storeStage => [0x13]
  | .storeErase => [0x14]
  | .storeWrite => [0x15]
  | .storeStatus => [0x16]
  | .restart => [0x1F]

/-- An operation whose counts fit their byte (R182). -/
def Op.fits : Op → Bool
  | .read n => decide (n < 256)
  | .storeRead n => decide (n < 256)
  | .write words => decide (words.length < 256)
  | .storeFill words => decide (words.length < 256)
  | .groupSet _ bins => decide (bins.length < 256)
  | .groupClear _ bins => decide (bins.length < 256)
  | .ident => true
  | .select _ _ => true
  | .counters _ => true
  | .countersClear _ => true
  | .eventsRead => true
  | .eventsClear _ _ => true
  | .eventsMask _ _ => true
  | .captureTake => true
  | .storeSelect _ _ => true
  | .storeStage => true
  | .storeErase => true
  | .storeWrite => true
  | .storeStatus => true
  | .restart => true

/-- The operations that R124 marks FULL. -/
def Op.needsFull : Op → Bool
  | .write _ => true
  | .groupSet _ _ => true
  | .groupClear _ _ => true
  | .countersClear _ => true
  | .eventsClear _ _ => true
  | .eventsMask _ _ => true
  | .captureTake => true
  | .storeFill _ => true
  | .storeStage => true
  | .storeErase => true
  | .storeWrite => true
  | .restart => true
  | .ident => false
  | .select _ _ => false
  | .read _ => false
  | .counters _ => false
  | .eventsRead => false
  | .storeSelect _ _ => false
  | .storeRead _ => false
  | .storeStatus => false

/-- The command that runs an operation; a reading operation takes `words` words in it (entry 5). -/
def Op.command (words : Nat) : Op → Instr
  | .ident => .ident words
  | .select _ _ => .select
  | .read _ => .read words
  | .write _ => .write
  | .groupSet _ _ => .groupSet
  | .groupClear _ _ => .groupClear
  | .counters _ => .counters words
  | .countersClear _ => .countersClear
  | .eventsRead => .eventsRead words
  | .eventsClear _ _ => .eventsClear
  | .eventsMask _ _ => .eventsMask
  | .captureTake => .captureTake
  | .storeSelect _ _ => .storeSelect
  | .storeRead _ => .storeRead words
  | .storeFill _ => .storeFill
  | .storeStage => .storeStage
  | .storeErase => .storeErase
  | .storeWrite => .storeWrite
  | .storeStatus => .storeStatus
  | .restart => .restart

/-- The reply buffer of an executing entry (R99, R125): the request's header turned, the payload given. -/
def Gateway.ReplyOf (g : Gateway) (e : AgentEntry) (payload : List Byte) (b : PoolBuffer) : Prop :=
  b.frame.dest = e.buf.frame.src ∧ b.frame.src = g.general.ownValue e.own &&& 0x7FFF ∧
    b.frame.service = e.buf.frame.service ∧ b.frame.kind = 2 ∧ b.frame.hop = 7 ∧ b.frame.spare = false ∧
    b.frame.tag = none ∧ b.frame.payload = payload ∧ b.ingress = e.buf.ingress ∧ b.origin = .reply

/-- The executing entry's ingress port takes a reply into a queue and keeps it there for now: it is ONLINE with
room, and its transmit slot is full (R55, R57). -/
def Gateway.QueuesReply (g : Gateway) (e : AgentEntry) : Prop :=
  g.executing = some e ∧ (g.port e.buf.ingress).admits = true ∧ (g.port e.buf.ingress).slot ≠ .empty

/-! ## When an operation fails (R123, R124, R127 to R142) -/

/-- A result of `n` data bytes leaves room for the header and the results around it (R125). -/
def Execution.Room (ex : Execution) (n : Nat) : Prop :=
  3 + ex.results.length + (2 + n) + 2 * ex.ops.tail.length ≤ 96

/-- How many words a STORE READ of `n` gives: it stops after word 15 (R138). -/
def Gateway.storeTotal (g : Gateway) (ex : Execution) (n : Nat) : Nat :=
  ex.taken.length + min (n - ex.taken.length) (16 - g.store.word)

/-- A word of a WRITE meets a protected index of the table, by the bits of the words (R43, R72, R130, R185, R188):
the status view, word 0 of a port that is not OFFLINE with another bit rate, words 1-10 of a valid entry, word 0 of
one that stays valid with another use of its words 3-10, and every index of COUNTERS and EVENTS. -/
def Gateway.GuardedWord (g : Gateway) (t : Table) (i : Nat) (v : Word) : Prop :=
  match t with
  | .port =>
    let q := if i < 8 then g.portA else g.portB
    i = 7 ∨ i = 15 ∨ ((i = 0 ∨ i = 8) ∧ q.state ≠ .offline ∧ field v 12 2 ≠ field q.words.control 12 2)
  | .route =>
    let w0 := g.route.getD (12 * (i / 12)) 0
    w0.getLsbD 15 = true ∧
      ((1 ≤ i % 12 ∧ i % 12 ≤ 10) ∨
        (i % 12 = 0 ∧ v.getLsbD 15 = true ∧ ∃ bit ∈ [1, 2, 3, 4, 7, 8], v.getLsbD bit ≠ w0.getLsbD bit))
  | .counters => True
  | .events => True
  | .general => False
  | .group => False
  | .meter => False

/-- A word of a WRITE carries a value outside the range of a setting it holds (R43, R52, R114, R115, R130): the
fourth code of access level or default action, a hold limit or tolerance above 255, a retry limit above 15, an age
limit above 60000, a debounce of 0 or above 255, a pool-low mark above 31, a rate above 4095, a burst of 0. -/
def ValueRefused (t : Table) (i : Nat) (v : Word) : Prop :=
  match t with
  | .port =>
    (i % 8 = 0 ∧ (field v 8 2 = 3 ∨ field v 4 2 = 3)) ∨ ((i % 8 = 1 ∨ i % 8 = 2) ∧ 255 < field v 0 12) ∨
      (i % 8 = 3 ∧ 15 < field v 0 12) ∨ (i % 8 = 4 ∧ 60000 < v.toNat) ∨
      (i % 8 = 5 ∧ (field v 0 12 = 0 ∨ 255 < field v 0 12))
  | .general => i = 10 ∧ 31 < field v 0 8
  | .meter => (i % 4 = 1 ∧ 4095 < v.toNat) ∨ (i % 4 = 2 ∧ v = 0)
  | .group => False
  | .route => False
  | .counters => False
  | .events => False

/-- The operation fails with a status, by the checks of its rule in their order; access comes first. -/
def Gateway.Fails (g : Gateway) (ex : Execution) (op : Op) (status : OpStatus) : Prop :=
  if op.needsFull = true ∧ g.execAccess ≠ .full then status = .denied
  else
    match op with
    | .ident => ¬ ex.Room 16 ∧ status = .replyFull
    | .select table index =>
      (∀ t, Table.ofCode table.toNat = some t → t.size ≤ index.toNat) ∧ status = .badOperand
    | .read n =>
      (¬ (1 ≤ n ∧ n ≤ 32) ∧ status = .badOperand) ∨ (1 ≤ n ∧ n ≤ 32 ∧ ¬ ex.Room (2 * n) ∧ status = .replyFull)
    | .write ws =>
      let targets := writeTargets g.windowTable g.windowIndex ws
      let guarded := ∃ iw ∈ targets, g.GuardedWord g.windowTable iw.1 iw.2
      let outOfRange := ∃ iw ∈ targets, ValueRefused g.windowTable iw.1 iw.2
      (¬ (1 ≤ ws.length ∧ ws.length ≤ 32) ∧ status = .badOperand) ∨
        (1 ≤ ws.length ∧ ws.length ≤ 32 ∧ guarded ∧ status = .protectedWord) ∨
        (1 ≤ ws.length ∧ ws.length ≤ 32 ∧ ¬ guarded ∧ outOfRange ∧ status = .badOperand) ∨
        (1 ≤ ws.length ∧ ws.length ≤ 32 ∧ ¬ guarded ∧ ¬ outOfRange ∧ g.windowTable = .route ∧
          routeWellFormed (writeRouteWords g.route targets) = false ∧ status = .badEntry)
    | .groupSet port bins =>
      (bins.length = 0 ∨ 16 < bins.length ∨ 1 < port.toNat ∨ ∃ b ∈ bins, 64 ≤ b.toNat) ∧ status = .badOperand
    | .groupClear port bins =>
      (bins.length = 0 ∨ 16 < bins.length ∨ 1 < port.toNat ∨ ∃ b ∈ bins, 64 ≤ b.toNat) ∧ status = .badOperand
    | .counters block =>
      (3 < block.toNat ∧ status = .badOperand) ∨
        (block.toNat ≤ 3 ∧ ¬ ex.Room (2 * blockSize block.toNat) ∧ status = .replyFull)
    | .countersClear block => 3 < block.toNat ∧ status = .badOperand
    | .eventsRead => ¬ ex.Room 12 ∧ status = .replyFull
    | .eventsClear _ _ => False
    | .eventsMask _ _ => False
    | .captureTake =>
      (g.capture = [] ∧ status = .empty) ∨
        (∃ b rest, g.capture = b :: rest ∧ ¬ ex.Room (9 + if b.frame.tag.isSome then 4 else 0) ∧
          status = .replyFull)
    | .storeSelect page word =>
      (g.store.busy = true ∧ status = .storeInUse) ∨
        (g.store.busy = false ∧ (63 < page.toNat ∨ 15 < word.toNat) ∧ status = .badOperand)
    | .storeRead n =>
      (¬ (1 ≤ n ∧ n ≤ 16) ∧ status = .badOperand) ∨
        (1 ≤ n ∧ n ≤ 16 ∧ g.store.busy = true ∧ status = .storeInUse) ∨
        (1 ≤ n ∧ n ≤ 16 ∧ g.store.busy = false ∧ ¬ ex.Room (2 * g.storeTotal ex n) ∧ status = .replyFull)
    | .storeFill ws =>
      (¬ (1 ≤ ws.length ∧ ws.length ≤ 16) ∧ status = .badOperand) ∨
        (1 ≤ ws.length ∧ ws.length ≤ 16 ∧ g.store.busy = true ∧ status = .storeInUse)
    | .storeStage =>
      (g.store.busy = true ∧ status = .storeInUse) ∨
        (g.store.busy = false ∧ (g.store.page = 0 ∨ 56 ≤ g.store.page) ∧ status = .badOperand)
    | .storeErase =>
      (g.store.busy = true ∧ status = .storeInUse) ∨
        (g.store.busy = false ∧ g.store.page = 0 ∧ status = .protectedWord)
    | .storeWrite =>
      (g.store.busy = true ∧ status = .storeInUse) ∨
        (g.store.busy = false ∧ g.store.page = 0 ∧ status = .protectedWord) ∨
        (g.store.busy = false ∧ g.store.page ≠ 0 ∧ (g.store.pageAt g.store.page).state ≠ .erased ∧
          status = .notErased)
    | .storeStatus => ¬ ex.Room 8 ∧ status = .replyFull
    | .restart => g.store.busy = true ∧ status = .storeInUse

/-- A decoded request runs `op`, none of whose checks fails. -/
def Gateway.Succeeds (g : Gateway) (ex : Execution) (op : Op) : Prop :=
  g.Runs ex op ∧ ∀ status, ¬ g.Fails ex op status

/-- The bytes of results of operations that are not run (R123, R183). -/
def skippedBytes (n : Nat) : List Byte :=
  (List.replicate n [0x20, 0x00]).flatten

/-- Where the reply of executing entry `e` stands, when its port keeps it in the URGENT queue (R99, R126). -/
def Gateway.RepliesWith (g t : Gateway) (e : AgentEntry) (payload : List Byte) (awaited : Bool) : Prop :=
  ∃ b, g.ReplyOf e payload b ∧ b.awaited = awaited ∧
    (t.port e.buf.ingress).urgent = (g.port e.buf.ingress).urgent ++ [⟨b, 0⟩]

/-! ## What a WRITE leaves at an index (R73, R129) -/

/-- The last of the listed words for an index, or what stood there. -/
def lastWritten (targets : List (Nat × Word)) (i : Nat) (old : Word) : Word :=
  (((targets.filter fun iw => iw.1 == i).getLast?).map Prod.snd).getD old

/-! ## Outcomes -/

/-- A step, when it answers a next state, leads from a state where `I` holds to one where it holds. -/
def Kept (I : Gateway → Prop) : Prop :=
  ∀ s s', I s.gw → step s = .next s' → I s'.gw

end Sys2Proof.Machine
end

