-- ==== Sys2Proof/Certificates/Slice0/Obligations.lean ====
section
/-! DEFINITION. The statements for the provers. Rule numbers are those of spec/, entry numbers those of
notes/assumptions/. -/

open Sys2Proof Sys2Proof.Machine

/-! ## The queue of commands and the resets -/

/-- The model's own queue (entry 2): a step runs the front command on the state with the queue's rest; an
empty queue idles. -/
def Obligations.FrontCommandRuns : Prop :=
  ∀ (c : Instr) (rest : List Instr) (g : Gateway),
    step ⟨c :: rest, g⟩ = exec c ⟨rest, g⟩ ∧ step ⟨[], g⟩ = .next ⟨[], g⟩

/-- What the machine holds right after reset (R23, R64, R116, R146, R160, R167, R169, R185, R186). That this is
a power-on reset of a part as manufactured is entry 13. -/
def Obligations.ResetLeavesStatedValues : Prop :=
  let g := State.reset.gw
  State.reset.pending = [] ∧ g.free = 32 ∧ g.agentQueue = [] ∧ g.capture = [] ∧ g.exec = none ∧
    g.restart = .none ∧ g.windowTable = .port ∧ g.windowIndex = 0 ∧
    (∀ i < 48, g.counters.getD i 1 = 0) ∧ g.counters.length = 48 ∧
    (∀ i < 768, g.route.getD i 1 = 0) ∧ (∀ i < 8, g.group.getD i 1 = 0) ∧
    (∀ k < 16, (g.meter k).control = 0 ∧ (g.meter k).rate = 0 ∧ (g.meter k).burst = 1 ∧ (g.meter k).credit = 1) ∧
    (List.range 11).map g.general.get =
      [0x7F00, 0xFFFF, 0x0000, 0xFFFF, 0x0001, 0x0000, 0x0000, 0xFFFF, 0xFFFF, 0x0155, 0x0004] ∧
    (List.range 7).map g.portA.words.get = [0x9200, 0x0010, 0x0020, 0x0003, 0x07D0, 0x000A, 0x0000] ∧
    (List.range 7).map g.portB.words.get = [0x9100, 0x0010, 0x0020, 0x0003, 0x07D0, 0x000A, 0x0000] ∧
    (∀ p : PortId, (g.port p).state = .starting ∧ (g.port p).view = .resync 0 ∧ (g.port p).rx = .rIdle ∧
      (g.port p).staging = none ∧ (g.port p).slot = .empty ∧ (g.port p).attempts = 0 ∧
      (g.port p).pendingPause = false ∧ (g.port p).pause = .running ∧ (g.port p).urgent = [] ∧
      (g.port p).normal = [] ∧ (g.port p).linkUp = false ∧ (g.port p).linkCount = 0) ∧
    g.monitor.flags0 = 0 ∧ g.monitor.flags1 = 0 ∧ g.monitor.alert = false ∧
    g.monitor.history = ⟨false, false, false, false, false⟩ ∧
    g.store.state = .sIdle ∧ g.store.inFlight = none ∧ g.store.last = none ∧ g.store.page = 0 ∧ g.store.word = 0 ∧
    (g.store.pageAt 0).state = .written ∧ (∀ n < 64, 1 ≤ n → (g.store.pageAt n).state = .erased)

/-- A power-on or line reset, from any state (R23, R64, R116, R146, R159, R160, R167, R169): the part is held,
STARTING, empty, with every table at its reset values; pages and in-flight record survive. That one taken during the
hold of another is taken the same way, with its own start cause, is entry 26. -/
def Obligations.ResetsClearThePart : Prop :=
  ∀ (s : State) (byLine : Bool),
    ∃ t, exec (if byLine then .lineReset else .powerOnReset) s = .next t ∧ t.pending = s.pending ∧
      t.gw.phase = .held ∧ t.gw.startCause = (if byLine then .line else .power) ∧
      (∀ p : PortId, (t.gw.port p).state = .starting ∧ (t.gw.port p).view = .resync 0 ∧
        (t.gw.port p).rx = .rIdle ∧ (t.gw.port p).staging = none ∧ (t.gw.port p).slot = .empty ∧
        (t.gw.port p).attempts = 0 ∧ (t.gw.port p).pendingPause = false ∧ (t.gw.port p).pause = .running ∧
        (t.gw.port p).urgent = [] ∧ (t.gw.port p).normal = [] ∧ (t.gw.port p).linkUp = false ∧
        (t.gw.port p).linkCount = 0 ∧ (t.gw.port p).words = PortWords.reset p) ∧
      t.gw.free = 32 ∧ t.gw.agentQueue = [] ∧ t.gw.capture = [] ∧ t.gw.exec = none ∧ t.gw.restart = .none ∧
      t.gw.windowTable = .port ∧ t.gw.windowIndex = 0 ∧
      AllBut [.phase, .startCause, .portA, .portB, .store] State.reset.gw t.gw ∧
      t.gw.store.pages = s.gw.store.pages ∧ t.gw.store.inFlight = s.gw.store.inFlight ∧
      t.gw.store.state = .sIdle ∧ t.gw.store.last = none ∧ t.gw.store.page = 0 ∧ t.gw.store.word = 0 ∧
      (∀ w < 16, t.gw.store.buffer.getD w ⟨1, true⟩ = ⟨0, false⟩)

/-- A request reset takes place when the restart is due, as a reset that is not held: its Boot Load begins at
once (R143, R159; its own command, entry 4). While no restart is due the command changes nothing (entry 1). -/
def Obligations.RequestResetNeedsDueRestart : Prop :=
  ∀ (s : State),
    ∃ t, exec .requestReset s = .next t ∧ t.pending = s.pending ∧
      (s.gw.restart = .due →
        t.gw.phase = .loading 1 ∧ t.gw.startCause = .request ∧ t.gw.restart = .none ∧ t.gw.free = 32 ∧
          t.gw.agentQueue = [] ∧ t.gw.exec = none ∧ t.gw.portA.state = .starting ∧ t.gw.portB.state = .starting ∧
          AllBut [.phase, .startCause, .portA, .portB, .store] State.reset.gw t.gw) ∧
      (s.gw.restart ≠ .due → t.gw = s.gw)

/-- The end of the hold begins the Boot Load: the page named by the in-flight record becomes TORN and the record
is kept (R159, R161). Outside a hold the command changes nothing (entry 1). -/
def Obligations.ReleaseMarksPageTorn : Prop :=
  ∀ (s : State) (n : Nat),
    ∃ t, exec .resetRelease s = .next t ∧ t.pending = s.pending ∧
      (s.gw.phase ≠ .held → t.gw = s.gw) ∧
      (s.gw.phase = .held →
        t.gw.phase = .loading 1 ∧ AllBut [.phase, .store] s.gw t.gw ∧
          t.gw.store.inFlight = s.gw.store.inFlight ∧
          (n < s.gw.store.pages.length →
            (t.gw.store.pageAt n).state =
                (if s.gw.store.inFlight.map Prod.snd = some n then .torn else (s.gw.store.pageAt n).state) ∧
              (t.gw.store.pageAt n).words = (s.gw.store.pageAt n).words))

/-! ## The Boot Load -/

/-- Page 1 gives each port its words 0-6 setting by setting; a zero or TORN page gives the reset values (R45,
R162, R163). -/
def Obligations.BootLoadsPortPage : Prop :=
  ∀ (s : State) (p : PortId) (k : Nat), s.gw.phase = .loading 1 → k < 7 →
    ∃ t, exec .bootPageLoad s = .next t ∧ t.pending = s.pending ∧ t.gw.phase = .loading 2 ∧
      AllBut [.phase, .loadFault, .portA, .portB] s.gw t.gw ∧
      (∀ q : PortId, t.gw.port q = { s.gw.port q with words := (t.gw.port q).words }) ∧
      let page := s.gw.store.pageAt 1
      let v := page.read ((if p = .a then 0 else 8) + k)
      (t.gw.loadFault = true ↔ s.gw.loadFault = true ∨ page.state = .torn) ∧
      (page.state = .torn ∨ (∀ w < 16, page.read w = 0) → (t.gw.port p).words = PortWords.reset p) ∧
      (page.state ≠ .torn → (∃ w < 16, page.read w ≠ 0) → 1 ≤ k →
        (t.gw.port p).words.get k =
          (if portWordInRange k v then v &&& portMask k else (PortWords.reset p).get k)) ∧
      (page.state ≠ .torn → (∃ w < 16, page.read w ≠ 0) → k = 0 →
        (t.gw.port p).words.modeOnline = v.getLsbD 15 ∧ rateCode (t.gw.port p).words.control = rateCode v ∧
          (t.gw.port p).words.strip = v.getLsbD 0 ∧
          field (t.gw.port p).words.control 8 2 =
            (if field v 8 2 = 3 then field (PortWords.reset p).control 8 2 else field v 8 2) ∧
          field (t.gw.port p).words.control 4 2 =
            (if field v 4 2 = 3 then field (PortWords.reset p).control 4 2 else field v 4 2))

/-- Page 2 gives GENERAL its words as they stand but for a pool-low mark above 31; a zero or TORN page gives the
reset values, and a TORN one keeps LOAD_FAULT (R52, R162, R163). POOL_LOW is re-evaluated with the loaded mark: its level
is recorded, no other is, and an edge that the loaded edge select names latches its flag (R50, R171). ALERT is
re-evaluated with the loaded masks: it is asserted exactly while an unmasked flag is latched (R175, R176). With the ports
STARTING nothing else changes. -/
def Obligations.BootLoadsGeneralPage : Prop :=
  ∀ (s : State) (i : Nat), s.gw.phase = .loading 2 → i < 11 →
    ∃ t, exec .bootPageLoad s = .next t ∧ t.pending = s.pending ∧ t.gw.phase = .loading 3 ∧
      let page := s.gw.store.pageAt 2
      (t.gw.loadFault = true ↔ s.gw.loadFault = true ∨ page.state = .torn) ∧
      AllBut ([.phase, .loadFault, .general] ++ latchParts) s.gw t.gw ∧
      (s.gw.portA.state = .starting → s.gw.portB.state = .starting →
        AllBut [.phase, .loadFault, .general, .monitor] s.gw t.gw) ∧
      (t.gw.monitor.alert = true ↔
        t.gw.monitor.flags0 &&& ~~~ t.gw.general.mask0 ≠ 0 ∨ t.gw.monitor.flags1 &&& ~~~ t.gw.general.mask1 ≠ 0) ∧
      t.gw.monitor.history =
        { s.gw.monitor.history with poolLow := decide (t.gw.free ≤ t.gw.general.poolMark) } ∧
      (t.gw.monitor.history.poolLow ≠ s.gw.monitor.history.poolLow →
        edgeLatches t.gw.general.edgeSelect .poolLow t.gw.monitor.history.poolLow = true →
        Latched .poolLow t.gw) ∧
      (page.state = .torn ∨ (∀ w < 16, page.read w = 0) → t.gw.general = General.reset) ∧
      (page.state ≠ .torn → (∃ w < 16, page.read w ≠ 0) →
        t.gw.general.get i =
          (if i = 10 ∧ 31 < poolMarkOf (page.read 10) then (page.read 10 &&& 0xFF00) ||| 4 else page.read i))

/-- Pages 3 and 8-55 give GROUP and ROUTE their words as they stand; a TORN page gives 0 (R157, R162, R163). -/
def Obligations.BootLoadsGroupAndRoutePages : Prop :=
  ∀ (s : State) (n i : Nat), s.gw.phase = .loading n → (n = 3 ∨ 8 ≤ n ∧ n ≤ 55) →
    ∃ t, exec .bootPageLoad s = .next t ∧ t.pending = s.pending ∧ t.gw.phase = .loading (n + 1) ∧
      let page := s.gw.store.pageAt n
      (t.gw.loadFault = true ↔ s.gw.loadFault = true ∨ page.state = .torn) ∧
      (n = 3 → AllBut [.phase, .loadFault, .group] s.gw t.gw ∧ (i < 8 → t.gw.group.getD i 0 = page.read i)) ∧
      (n ≠ 3 → AllBut [.phase, .loadFault, .route] s.gw t.gw ∧
        (i < s.gw.route.length →
          t.gw.route.getD i 0 =
            (if 16 * (n - 8) ≤ i ∧ i < 16 * (n - 8) + 16 then page.read (i - 16 * (n - 8))
              else s.gw.route.getD i 0)))

/-- Pages 4-7 give four meters each their words setting by setting; a TORN page gives the reset values and keeps
LOAD_FAULT (R117, R157, R162). A loaded credit is limited to the burst already here (entry 18). -/
def Obligations.BootLoadsMeterPages : Prop :=
  ∀ (s : State) (n k : Nat), s.gw.phase = .loading n → 4 ≤ n → n ≤ 7 → k < s.gw.meters.length →
    ∃ t, exec .bootPageLoad s = .next t ∧ t.pending = s.pending ∧ t.gw.phase = .loading (n + 1) ∧
      AllBut [.phase, .loadFault, .meters] s.gw t.gw ∧
      let page := s.gw.store.pageAt n
      let w := fun j => page.read (4 * (k - 4 * (n - 4)) + j)
      (t.gw.loadFault = true ↔ s.gw.loadFault = true ∨ page.state = .torn) ∧
      (¬ (4 * (n - 4) ≤ k ∧ k < 4 * (n - 4) + 4) → t.gw.meter k = s.gw.meter k) ∧
      (4 * (n - 4) ≤ k → k < 4 * (n - 4) + 4 → page.state = .torn → t.gw.meter k = Meter.reset) ∧
      (4 * (n - 4) ≤ k → k < 4 * (n - 4) + 4 → page.state ≠ .torn →
        (t.gw.meter k).control = w 0 &&& 0x8003 ∧
          (t.gw.meter k).rate = (if (w 1).toNat ≤ 4095 then w 1 else 0) ∧
          (t.gw.meter k).burst = (if w 2 = 0 then 1 else w 2) ∧
          (t.gw.meter k).credit.toNat = min (w 3).toNat (t.gw.meter k).burst.toNat)

/-- The end of the Boot Load (R117, R164, R165): the Route Table is settled, credits are set, the record is
cleared, the ports leave STARTING, and the two fault flags are handed. -/
def Obligations.BootLoadEndSettles : Prop :=
  ∀ (s : State) (e w k : Nat) (p : PortId), s.gw.phase = .loading 56 → s.gw.route.length = 768 → e < 64 →
    w < 12 → k < s.gw.meters.length →
    ∃ t, exec .bootLoadEnd s = .next t ∧ t.pending = s.pending ∧ t.gw.phase = .running ∧
      t.gw.store = { s.gw.store with inFlight := none } ∧
      AllBut [.phase, .loadFault, .portA, .portB, .meters, .route, .store, .monitor] s.gw t.gw ∧
      routeWord t.gw.route e 11 = 0 ∧
      (1 ≤ w → w ≤ 10 → routeWord t.gw.route e w = routeWord s.gw.route e w) ∧
      routeWord t.gw.route e 0 &&& 0x7FFF = routeWord s.gw.route e 0 &&& 0x7FFF ∧
      (entryValid (routeWord t.gw.route e 0) = true ↔
        entryValid (routeWord s.gw.route e 0) = true ∧ entryWellFormed s.gw.route e = true ∧
          ∀ v < 12, (s.gw.store.pageAt (8 + (12 * e + v) / 16)).state ≠ .torn) ∧
      (t.gw.meter k).control = (s.gw.meter k).control ∧ (t.gw.meter k).rate = (s.gw.meter k).rate ∧
      (t.gw.meter k).burst = (s.gw.meter k).burst ∧
      ((s.gw.meter k).enabled = true → (t.gw.meter k).credit = (s.gw.meter k).burst) ∧
      ((s.gw.meter k).enabled = false →
        (t.gw.meter k).credit.toNat = min (s.gw.meter k).credit.toNat (s.gw.meter k).burst.toNat) ∧
      t.gw.port p =
        { s.gw.port p with
          state := if (s.gw.port p).words.modeOnline then .linkDown else .offline
          linkUp := false
          linkCount := 0
          linkDue := false
          view := .resync 0 } ∧
      (s.gw.store.inFlight.isSome = true → Latched .storeFault t.gw) ∧
      (s.gw.loadFault = true → Latched .loadFault t.gw) ∧
      (s.gw.store.inFlight = none → s.gw.loadFault = false → t.gw.monitor = s.gw.monitor)

/-! ## Local time and the link supervisors -/

/-- At a tick every enabled meter gains its rate up to its burst, a disabled one nothing (R103). A hold is handed to
its re-test (a prompt, entry 4) exactly when its record is of a FORWARD frame and names a meter that the tick raises;
every other hold, and a port that does not hold, keeps its part in the slot as it is (R87). -/
def Obligations.TickRefillsMeters : Prop :=
  ∀ (s : State) (k : Nat) (p : PortId), s.gw.phase = .running → s.gw.meters.length = 16 → k < 16 →
    ∃ t, exec .tick s = .next t ∧ t.pending = s.pending ∧
      (t.gw.meter k).control = (s.gw.meter k).control ∧ (t.gw.meter k).rate = (s.gw.meter k).rate ∧
      (t.gw.meter k).burst = (s.gw.meter k).burst ∧
      ((s.gw.meter k).enabled = true →
        (t.gw.meter k).credit.toNat =
          min ((s.gw.meter k).credit.toNat + (s.gw.meter k).rate.toNat) (s.gw.meter k).burst.toNat) ∧
      ((s.gw.meter k).enabled = false → (t.gw.meter k).credit = (s.gw.meter k).credit) ∧
      (∀ timer retest r, (s.gw.port p).role = .holding timer retest → (s.gw.port p).record = some r →
        (r.action = some .forward → r.meter = some k →
          (t.gw.port p).role =
            .holding timer (retest || decide ((s.gw.meter k).credit.toNat < (t.gw.meter k).credit.toNat))) ∧
        (r.action ≠ some .forward ∨ (∀ j < 16, r.meter ≠ some j) →
          (t.gw.port p).role = .holding timer retest)) ∧
      ((s.gw.port p).isHolding = false ∨ (s.gw.port p).record = none →
        (t.gw.port p).role = (s.gw.port p).role)

/-- A tick ages every queued frame, stopping at 65535, counts for the link supervisors, stopping at 255, and for
a busy store, and finds whether a change of link level is due (R41, R54, R149; kept as a mark, entry 24); nothing else
but meters and the prompts of holds changes. Outside the running part it does nothing (R166). -/
def Obligations.TickAgesAndCounts : Prop :=
  ∀ (s : State) (p : PortId),
    ∃ t, exec .tick s = .next t ∧ t.pending = s.pending ∧ (s.gw.phase ≠ .running → t.gw = s.gw) ∧
      (s.gw.phase = .running →
        AllBut [.portA, .portB, .meters, .store] s.gw t.gw ∧
        t.gw.port p =
          { s.gw.port p with
            urgent := (s.gw.port p).urgent.map fun e => { e with age := min 65535 (e.age + 1) }
            normal := (s.gw.port p).normal.map fun e => { e with age := min 65535 (e.age + 1) }
            linkCount := min 255 ((s.gw.port p).linkCount + 1)
            linkDue := (t.gw.port p).linkDue
            role := (t.gw.port p).role } ∧
        ((t.gw.port p).linkDue = true ↔
          (s.gw.port p).words.debounce.toNat ≤ (t.gw.port p).linkCount ∧
            (((s.gw.port p).noBias || (s.gw.port p).stuckDominant) = (s.gw.port p).linkUp)) ∧
        t.gw.store =
          { s.gw.store with timer := s.gw.store.timer + (if s.gw.store.state = .sIdle then 0 else 1) })

/-- A line fault condition appears or clears; the tick count restarts when the fault changes, either way (R40,
R41). -/
def Obligations.LineFaultRestartsCount : Prop :=
  ∀ (s : State) (p : PortId) (cause : LineFault) (present : Bool),
    ∃ t, exec (.lineFaultChange p cause present) s = .next t ∧ t.pending = s.pending ∧
      AllBut [portPart p] s.gw t.gw ∧
      t.gw.port p =
        { s.gw.port p with
          noBias := if cause = .noBias then present else (s.gw.port p).noBias
          stuckDominant := if cause = .stuckDominant then present else (s.gw.port p).stuckDominant
          linkCount := if (t.gw.port p).fault = (s.gw.port p).fault then (s.gw.port p).linkCount else 0 }

/-- A due rise of the link level (entries 4, 24) makes a LINK_DOWN port ACTIVE and leaves an OFFLINE one OFFLINE; the
edge is recorded, and latched when the edge select is RISE or BOTH (R19, R41, R171). A port that becomes ACTIVE marks a
FORWARD hold on the other port for its re-test (R87, entry 4). -/
def Obligations.LinkUpActivates : Prop :=
  ∀ (s : State) (p : PortId), (s.gw.port p).state ≠ .starting → (s.gw.port p).linkDue = true →
    (s.gw.port p).linkUp = false → s.gw.monitor.history.get (.link p) = false →
    ∃ t, exec (.linkUp p) s = .next t ∧ t.pending = s.pending ∧ (t.gw.port p).linkUp = true ∧
      (t.gw.port p).state = (if (s.gw.port p).state = .linkDown then .active else (s.gw.port p).state) ∧
      (t.gw.port p).view = (s.gw.port p).view ∧ t.gw.monitor.history.get (.link p) = true ∧
      (edgeLatches s.gw.general.edgeSelect (.link p) true = true → Latched (.link p) t.gw) ∧
      (∀ timer retest r, (s.gw.port p).state = .linkDown → (s.gw.port p.other).role = .holding timer retest →
        (s.gw.port p.other).record = some r → r.action = some .forward →
        (t.gw.port p.other).role = .holding timer true) ∧
      AllBut [.portA, .portB, .free, .counters, .restart, .agentQueue, .monitor] s.gw t.gw

/-- A due fall of the link level (entries 4, 24) makes an ACTIVE port LINK_DOWN: a claim ends at once with no response,
an attempt is abandoned and its frame waits with its attempt count, and the port drives nothing more; the queues stay
(R19, R20, R28, R35, R41). -/
def Obligations.LinkDownAbandons : Prop :=
  ∀ (s : State) (p : PortId), (s.gw.port p).state = .active → (s.gw.port p).linkDue = true →
    (s.gw.port p).linkUp = true → s.gw.general.noticeEnable = false → s.gw.Settled →
    ∃ t, exec (.linkDown p) s = .next t ∧ t.pending = s.pending ∧
      AllBut [portPart p, .monitor] s.gw t.gw ∧
      (t.gw.port p).state = .linkDown ∧ (t.gw.port p).linkUp = false ∧
      (t.gw.port p).slot = (s.gw.port p).slot ∧ (t.gw.port p).attempts = (s.gw.port p).attempts ∧
      (t.gw.port p).urgent = (s.gw.port p).urgent ∧ (t.gw.port p).normal = (s.gw.port p).normal ∧
      (t.gw.port p).pause = (s.gw.port p).pause ∧ (t.gw.port p).pendingPause = (s.gw.port p).pendingPause ∧
      (t.gw.port p).role = .nonClaimant ∧ (t.gw.port p).abort = [] ∧
      ((s.gw.port p).role ≠ .nonClaimant → (t.gw.port p).staging = none) ∧
      (((s.gw.port p).tx = .tArb ∨ (s.gw.port p).tx = .tSend ∨ (s.gw.port p).tx = .tSlot) →
        (t.gw.port p).tx = .tWaitIdle ∧ (t.gw.port p).view = .resync 0 ∧ (t.gw.port p).rx = .rIdle) ∧
      (¬ ((s.gw.port p).tx = .tArb ∨ (s.gw.port p).tx = .tSend ∨ (s.gw.port p).tx = .tSlot) →
        (t.gw.port p).tx = (s.gw.port p).tx ∧ (t.gw.port p).view = (s.gw.port p).view ∧
          (t.gw.port p).rx = (s.gw.port p).rx)

/-! ## The line and the receive side -/

/-- Eleven consecutive recessive bit times in the gap or resynchronising make the view idle, and the rest counts
towards the back-off; a STARTING port does not follow the line (R3, R20, R29). The command carries the number of bit
times (entry 25), and with the first of them an abort pattern the port drove is over (R31, entry 33). -/
def Obligations.ElevenRecessiveBitsIdle : Prop :=
  ∀ (s : State) (p : PortId) (bits : Nat),
    ∃ t, exec (.busIdle p bits) s = .next t ∧ t.pending = s.pending ∧ AllBut [portPart p] s.gw t.gw ∧
      ((s.gw.port p).state = .starting → t.gw = s.gw) ∧
      ((s.gw.port p).state ≠ .starting →
        t.gw.port p =
          { s.gw.port p with
            view :=
              match (s.gw.port p).view with
              | .inFrame => .inFrame
              | .inSlot => .inSlot
              | .idle n => .idle (n + bits)
              | .gap n => if n + bits < 11 then .gap (n + bits) else .idle (n + bits - 11)
              | .resync n => if n + bits < 11 then .resync (n + bits) else .idle (n + bits - 11)
            abort := if bits = 0 then (s.gw.port p).abort else [] })

/-- A dominant bit in the idle or the gap is taken as a start bit; resynchronising, it restarts the count; the
frame in the transmit slot and its attempt count stay (R3, R4, R24). A STARTING port does not follow the line (R20). -/
def Obligations.StartBitOpensFrame : Prop :=
  ∀ (s : State) (p : PortId),
    ∃ t, exec (.startBit p) s = .next t ∧ t.pending = s.pending ∧ AllBut [portPart p] s.gw t.gw ∧
      ((s.gw.port p).state = .starting → t.gw = s.gw) ∧
      ((s.gw.port p).state ≠ .starting →
        t.gw.port p =
          (match (s.gw.port p).view with
            | .idle _ => { s.gw.port p with view := .inFrame, rx := .rFrame }
            | .gap _ => { s.gw.port p with view := .inFrame, rx := .rFrame }
            | .resync _ => { s.gw.port p with view := .resync 0 }
            | .inFrame => s.gw.port p
            | .inSlot => s.gw.port p))

/-- A symbol error, and a length byte of 97-255, abandon the frame being received: RX_FORMAT counts, the view
resynchronises from zero (entry 31), the receive side is R_IDLE; with no frame being received they change nothing
(R6, R8, R24, R25). -/
def Obligations.BrokenFramesAreAbandoned : Prop :=
  ∀ (s : State) (p : PortId) (length : Byte) (c : Instr), 96 < length.toNat →
    c ∈ [Instr.symbolError p, Instr.lengthOutOfRange p length] →
    ∃ t, exec c s = .next t ∧ t.pending = s.pending ∧ AllBut [portPart p, .counters] s.gw t.gw ∧
      ((s.gw.port p).state ≠ .starting → (s.gw.port p).rx = .rFrame →
        Counted (portCounterIndex p .rxFormat) s.gw t.gw ∧
          t.gw.port p =
            { s.gw.port p with
              rx := .rIdle, view := .resync 0, staging := none, record := none, role := .nonClaimant }) ∧
      ((s.gw.port p).state = .starting ∨ (s.gw.port p).rx ≠ .rFrame → t.gw = s.gw)

/-- A frame whose check does not match counts RX_CHECK and latches the port's CHECK flag; one with illegal
contents and a matching check counts RX_FORMAT; neither is claimed, and the slot is followed (R8, R25). -/
def Obligations.BadFramesAreNotClaimed : Prop :=
  ∀ (s : State) (p : PortId) (f : Frame) (check : Word), f.fits = true → (s.gw.port p).state ≠ .starting →
    (s.gw.port p).rx = .rFrame → s.gw.Settled → (crc f.bytes ≠ check ∨ f.illegal = true) →
    ∃ t, exec (.receiveCompletion p f.bytes check) s = .next t ∧ t.pending = s.pending ∧
      (t.gw.port p).rx = .rSlot ∧ (t.gw.port p).view = .inSlot ∧ (t.gw.port p).role = .nonClaimant ∧
      (t.gw.port p).record = none ∧
      (crc f.bytes ≠ check →
        Counted (portCounterIndex p .rxCheck) s.gw t.gw ∧ Latched (.check p) t.gw ∧
          AllBut (.counters :: latchParts) s.gw t.gw) ∧
      (crc f.bytes = check →
        Counted (portCounterIndex p .rxFormat) s.gw t.gw ∧ AllBut [portPart p, .counters] s.gw t.gw)

/-- A good frame on an OFFLINE or LINK_DOWN port counts RX_GOOD and goes no further: no lookup, no hit count, no
response (R20, R25). -/
def Obligations.GoodFrameOutsideActiveIsDropped : Prop :=
  ∀ (s : State) (p : PortId) (f : Frame), f.fits = true → f.illegal = false →
    ((s.gw.port p).state = .offline ∨ (s.gw.port p).state = .linkDown) → (s.gw.port p).rx = .rFrame →
    s.gw.Settled →
    ∃ t, exec (.receiveCompletion p f.bytes (crc f.bytes)) s = .next t ∧ t.pending = s.pending ∧
      Counted (portCounterIndex p .rxGood) s.gw t.gw ∧ AllBut [portPart p, .counters] s.gw t.gw ∧
      t.gw.port p =
        { s.gw.port p with
          rx := .rSlot, view := .inSlot, staging := some ⟨f, crc f.bytes⟩, record := none, role := .nonClaimant }

/-- The end delimiter of a received frame's slot, that of a good PAUSE frame on an ACTIVE port apart: R_IDLE, the
gap, staging and record dropped (R3, R24, R65, R89). A hold goes on: it has no end delimiter yet (entry 1). -/
def Obligations.EndDelimiterEndsSlot : Prop :=
  ∀ (s : State) (p : PortId), (s.gw.port p).state ≠ .starting → (s.gw.port p).rx = .rSlot →
    (s.gw.port p).pauseFrame = none →
    ∃ t, exec (.endDelimiter p) s = .next t ∧ t.pending = s.pending ∧ AllBut [portPart p] s.gw t.gw ∧
      ((s.gw.port p).isHolding = true → t.gw = s.gw) ∧
      ((s.gw.port p).isHolding = false →
        t.gw.port p =
          { s.gw.port p with
            rx := .rIdle, view := .gap 0, staging := none, record := none, role := .nonClaimant })

/-- An ACTIVE port acts on a good PAUSE frame at its end delimiter: PAUSED for 256 bit times a quantum whatever
the pause was, RUNNING at count 0; PAUSE_RX is counted and reported (R18, R36). PAUSE_RX and END_DELIMITER are
that one event (entry 8). -/
def Obligations.PauseFrameSetsPause : Prop :=
  ∀ (s : State) (p : PortId) (st : Staged) (r : DecisionRecord) (c : Instr),
    c ∈ [Instr.pauseRx p, Instr.endDelimiter p] → (s.gw.port p).state = .active → (s.gw.port p).rx = .rSlot →
    (s.gw.port p).isHolding = false →
    (s.gw.port p).staging = some st → (s.gw.port p).record = some r → r.path = .pause →
    s.gw.counters.length = 48 →
    ∃ t, exec c s = .next t ∧ t.pending = s.pending ∧
      (t.gw.port p).pause =
        (if st.frame.pauseCount = 0 then .running else .paused (st.frame.pauseCount * 256)) ∧
      (t.gw.port p).rx = .rIdle ∧ (t.gw.port p).view = .gap 0 ∧ (t.gw.port p).staging = none ∧
      (t.gw.port p).record = none ∧ Latched (.pauseRx p) t.gw ∧
      t.gw.counters.getD (portCounterIndex p .pauseRx) 0 =
        s.gw.counters.getD (portCounterIndex p .pauseRx) 0 + 1 ∧
      AllBut [.portA, .portB, .free, .counters, .restart, .agentQueue, .monitor] s.gw t.gw

/-! ## The decision at receive completion -/

/-- R74: the lookup gives the lowest-indexed entry whose six conditions hold, and none exactly when no entry's do; the
winner fills the record with its index and words, absent parts absent. With no winner the record takes the port's
default action (R76). -/
def Obligations.LookupTakesLowestMatch : Prop :=
  ∀ (g : Gateway) (p : PortId) (f : Frame),
    let w := routeWord g.route
    let wins := fun (e : Nat) =>
      (w e 0).getLsbD 15 = true ∧ (field (w e 0) 13 2 = 2 ∨ field (w e 0) 13 2 = if p = .a then 0 else 1) ∧
        f.dest &&& w e 2 = w e 1 &&& w e 2 ∧
        ((w e 0).getLsbD 8 = false ∨ f.src &&& w e 4 = w e 3 &&& w e 4) ∧
        ((w e 0).getLsbD 7 = false ∨ f.service &&& w e 6 = w e 5 &&& w e 6) ∧
        (field (w e 0) 5 2 = 0 ∨ (field (w e 0) 5 2 = 1 ∧ f.tag.isSome = true) ∨
          (field (w e 0) 5 2 = 2 ∧ f.tag = none))
    let r := g.routeRecord p f
    (∀ e, lookup g.route p f = some e ↔ e < 64 ∧ wins e ∧ ∀ i < e, ¬ wins i) ∧
      (lookup g.route p f = none ↔ ∀ e < 64, ¬ wins e) ∧
      (∀ e, lookup g.route p f = some e →
        r.path = .route ∧ r.entry = some e ∧
          (field (w e 0) 10 3 = 0 → r.action = some .forward ∧
            r.queue = some (if (w e 0).getLsbD 9 then .urgent else .normal)) ∧
          (field (w e 0) 10 3 = 1 → r.action = some .refuse) ∧ (field (w e 0) 10 3 = 2 → r.action = some .ignore) ∧
          (field (w e 0) 10 3 = 3 → r.action = some .divert) ∧
          r.rewrite = (if (w e 0).getLsbD 2 then some (w e 7) else none) ∧
          (field (w e 0) 3 2 = 0 → r.tagOp = .none) ∧
          (field (w e 0) 3 2 = 1 → r.tagOp = .insert ∧ r.tagValue = w e 8 ++ w e 9) ∧
          (field (w e 0) 3 2 = 2 → r.tagOp = .strip) ∧
          r.meter = (if (w e 0).getLsbD 1 then some (w e 10).toNat else none) ∧ r.bypass = (w e 0).getLsbD 0) ∧
      (lookup g.route p f = none →
        r.path = .default ∧ r.action = some (g.port p).words.defaultAction ∧ r.rewrite = none ∧ r.tagOp = .none ∧
          r.meter = none ∧ r.bypass = false ∧
          ((g.port p).words.defaultAction = .forward → r.queue = some .normal))

/-- Frames decided at once: a good PAUSE frame passes in silence with no lookup and no hit count, its count acted on
at the end delimiter only; the verdict IGNORE passes in silence and REFUSE answers NAK-REFUSE with REFUSED counted,
the winning entry's hit count one higher (R17, R36, R66, R75 to R77). -/
def Obligations.PauseIgnoreAndRefuseEndTheDecision : Prop :=
  ∀ (s : State) (p : PortId) (f : Frame), s.gw.Receives p f → s.gw.Settled →
    let r := s.gw.routeRecord p f
    (f.kind = kindPause ∨ (s.gw.Routes p f ∧ (r.action = some .ignore ∨ r.action = some .refuse))) →
    ∃ t, exec (completion p f) s = .next t ∧ t.pending = s.pending ∧
      AllBut [portPart p, .route, .counters] s.gw t.gw ∧ (t.gw.port p).rx = .rSlot ∧
      (t.gw.port p).pause = (s.gw.port p).pause ∧
      t.gw.route = (if f.kind = kindPause then s.gw.route else s.gw.routeHit p f) ∧
      (f.kind = kindPause → (t.gw.port p).pauseFrame = some f.pauseCount) ∧
      (f.kind ≠ kindPause → (t.gw.port p).pauseFrame = none) ∧
      (f.kind = kindPause ∨ r.action = some .ignore →
        (t.gw.port p).role = .nonClaimant ∧ Counted (portCounterIndex p .rxGood) s.gw t.gw) ∧
      (f.kind ≠ kindPause → r.action = some .refuse →
        (t.gw.port p).role = .answered .nakRefuse ∧
          CountedAll [portCounterIndex p .rxGood, portCounterIndex p .refused] s.gw t.gw)

/-- The first three checks of a FORWARD frame, in their order: hop count 0 is refused, counted and reported; a
group destination whose bin is clear passes in silence unless bypassed; an egress port that is not ACTIVE is
refused (R79 to R82). -/
def Obligations.ForwardChecksInOrder : Prop :=
  ∀ (s : State) (p : PortId) (f : Frame), s.gw.Receives p f → s.gw.Settled → s.gw.Routes p f →
    (s.gw.routeRecord p f).action = some .forward →
    let r := s.gw.routeRecord p f
    let d := r.rewrite.getD f.dest
    let wanted := d.getLsbD 15 = false ∨ r.bypass = true ∨ binSet s.gw.group p.other (binOf d) = true
    ∃ t, exec (completion p f) s = .next t ∧ t.pending = s.pending ∧ t.gw.route = s.gw.routeHit p f ∧
      (f.hop = 0 →
        (t.gw.port p).role = .answered .nakRefuse ∧ Latched .hopExpired t.gw ∧
          CountedAll
            [portCounterIndex p .rxGood, portCounterIndex p .refused, deviceCounterIndex .hopExpired] s.gw t.gw ∧
          AllBut ([.route, .counters] ++ latchParts) s.gw t.gw) ∧
      (f.hop ≠ 0 → ¬ wanted →
        (t.gw.port p).role = .nonClaimant ∧ CountedAll [portCounterIndex p .rxGood] s.gw t.gw ∧
          AllBut [portPart p, .route, .counters] s.gw t.gw) ∧
      (f.hop ≠ 0 → wanted → (s.gw.port p.other).state ≠ .active →
        (t.gw.port p).role = .answered .nakRefuse ∧
          CountedAll [portCounterIndex p .rxGood, portCounterIndex p .refused] s.gw t.gw ∧
          AllBut [portPart p, .route, .counters] s.gw t.gw)

/-- A frame the part would take but has no room for now is held, HELD counted and the timer armed from the hold
limit, or answered NAK-BUSY at once when the limit is 0: a management request, a DIVERT frame, and a FORWARD
frame at the capacity check, whatever its meter (R27, R69, R78, R83, R86). The hold of a FORWARD frame that names a
meter records the meter's enabled flag and mode as they stand (R86, R112). The frame stays in staging, also when it is
answered NAK-BUSY (entry 20). -/
def Obligations.NoRoomHoldsOrAnswersBusy : Prop :=
  ∀ (s : State) (p : PortId) (f : Frame), s.gw.Receives p f → s.gw.Settled → f.kind ≠ kindPause →
    ((s.gw.takes p f ≠ none ∧ (2 ≤ s.gw.agentQueue.length ∨ s.gw.free = 0)) ∨
      (s.gw.takes p f = none ∧ (s.gw.routeRecord p f).action = some .divert ∧
        (s.gw.free < 2 ∨ 4 ≤ s.gw.capture.length)) ∨
      (s.gw.takes p f = none ∧ s.gw.Crosses p (s.gw.routeRecord p f) f ∧
        (s.gw.free < 2 ∨ 24 ≤ (s.gw.port p.other).egressCount))) →
    ∃ t, exec (completion p f) s = .next t ∧ t.pending = s.pending ∧
      AllBut [portPart p, .route, .counters] s.gw t.gw ∧
      t.gw.route = (if s.gw.takes p f = none then s.gw.routeHit p f else s.gw.route) ∧
      (t.gw.port p).staging = some ⟨f, crc f.bytes⟩ ∧
      ((s.gw.port p).words.holdLimit ≠ 0 →
        (t.gw.port p).role = .holding ((s.gw.port p).words.holdLimit.toNat * 64) false ∧
          (t.gw.port p).record.map DecisionRecord.outcome = some .holding ∧
          (t.gw.port p).record.bind DecisionRecord.treatment =
            (if s.gw.takes p f = none ∧ (s.gw.routeRecord p f).action = some .forward then
              (s.gw.routeRecord p f).meter.map fun k =>
                ((s.gw.meter k).control.getLsbD 15, (s.gw.meter k).mode)
            else none) ∧
          CountedAll [portCounterIndex p .rxGood, portCounterIndex p .held] s.gw t.gw) ∧
      ((s.gw.port p).words.holdLimit = 0 →
        (t.gw.port p).role = .answered .nakBusy ∧
          CountedAll [portCounterIndex p .rxGood, portCounterIndex p .busy] s.gw t.gw)

/-- A FORWARD frame that passes its five checks is claimed with ACK: the meter it conforms to is debited, one
buffer taken, and the rewritten frame, its hop count one lower, joins the queue its record names (R84, R85, R92
to R95, R105). Its place is shown where the egress slot is full, so that no selection follows there, and notices are
off; the next statement shows the other place. The receiving port's own slot may be full or empty. -/
def Obligations.ForwardClaimQueuesFrame : Prop :=
  ∀ (s : State) (p : PortId) (f : Frame), s.gw.Receives p f → s.gw.Settled → s.gw.Routes p f →
    s.gw.Crosses p (s.gw.routeRecord p f) f → 2 ≤ s.gw.free → (s.gw.port p.other).egressCount < 24 →
    (∀ k, (s.gw.routeRecord p f).meter = some k → (s.gw.meter k).enabled = true →
      (s.gw.routeRecord p f).byteCount ≤ (s.gw.meter k).credit.toNat) →
    s.gw.general.noticeEnable = false → (s.gw.port p.other).slot ≠ .empty →
    let r := s.gw.routeRecord p f
    let b : PoolBuffer :=
      { frame :=
          { f with
            dest := r.rewrite.getD f.dest
            tag := match r.tagOp with
              | .none => f.tag
              | .insert => some r.tagValue
              | .strip => none
            hop := f.hop - 1 }
        ingress := p, origin := .claimed, awaited := false }
    ∃ t, exec (completion p f) s = .next t ∧ t.pending = s.pending ∧
      AllBut [.portA, .portB, .free, .meters, .route, .counters, .monitor] s.gw t.gw ∧
      (t.gw.port p).role = .answered .ack ∧ t.gw.free + 1 = s.gw.free ∧ t.gw.route = s.gw.routeHit p f ∧
      CountedAll [portCounterIndex p .rxGood, portCounterIndex p .claimed] s.gw t.gw ∧
      (t.gw.port p.other).slot = (s.gw.port p.other).slot ∧
      (t.gw.port p.other).urgent =
        (s.gw.port p.other).urgent ++ (if r.queue = some .urgent then [⟨b, 0⟩] else []) ∧
      (t.gw.port p.other).normal =
        (s.gw.port p.other).normal ++ (if r.queue = some .urgent then [] else [⟨b, 0⟩]) ∧
      (∀ k, r.meter = some k → (s.gw.meter k).enabled = true → k < s.gw.meters.length →
        (t.gw.meter k).credit.toNat + r.byteCount = (s.gw.meter k).credit.toNat) ∧
      (∀ k, (r.meter ≠ some k ∨ (s.gw.meter k).enabled = false) → t.gw.meter k = s.gw.meter k)

/-- Where the egress port's slot is empty and it is RUNNING, with pool pause off, the claimed frame goes
straight into the slot with attempt count 0 and waits for idle (R57, R58, R59). -/
def Obligations.ForwardClaimFillsIdleSlot : Prop :=
  ∀ (s : State) (p : PortId) (f : Frame), s.gw.Receives p f → s.gw.Settled → s.gw.Routes p f →
    s.gw.Crosses p (s.gw.routeRecord p f) f → 2 ≤ s.gw.free → (s.gw.routeRecord p f).meter = none →
    s.gw.general.noticeEnable = false → s.gw.general.poolPause = false →
    (s.gw.port p.other).slot = .empty → (s.gw.port p.other).pause = .running →
    ∃ t, exec (completion p f) s = .next t ∧ t.pending = s.pending ∧
      AllBut [.portA, .portB, .free, .route, .counters, .monitor] s.gw t.gw ∧
      (t.gw.port p).role = .answered .ack ∧ t.gw.free + 1 = s.gw.free ∧
      (t.gw.port p.other).slot =
        .pool ⟨rewriteFrame (s.gw.routeRecord p f) f, p, .claimed, false⟩ ∧
      (t.gw.port p.other).tx = .tWaitIdle ∧ (t.gw.port p.other).attempts = 0 ∧
      (t.gw.port p.other).urgent = [] ∧ (t.gw.port p.other).normal = []

/-- A non-conforming frame, by the meter's mode (R84, R107 to R111): its exceed count and METER_EXCEED rise
once; DROP refuses, PAUSE answers busy and asks the receiving port for a PAUSE, HOLD holds or answers busy, MARK
claims without debit into NORMAL. The ask sets the receiving port's request while its slot is full, and puts the PAUSE
frame into an empty slot at once (R38, R39, R57, R58). Shown with the egress slot full and notices off. -/
def Obligations.MeterModeDecides : Prop :=
  ∀ (s : State) (p : PortId) (f : Frame) (k : Nat), s.gw.Receives p f → s.gw.Settled → s.gw.Routes p f →
    s.gw.Crosses p (s.gw.routeRecord p f) f → 2 ≤ s.gw.free → (s.gw.port p.other).egressCount < 24 →
    (s.gw.routeRecord p f).meter = some k → (s.gw.meter k).enabled = true →
    (s.gw.meter k).credit.toNat < (s.gw.routeRecord p f).byteCount →
    s.gw.general.noticeEnable = false → (s.gw.port p.other).slot ≠ .empty →
    ∃ t, exec (completion p f) s = .next t ∧ t.pending = s.pending ∧
      AllBut [.portA, .portB, .free, .route, .counters, .monitor] s.gw t.gw ∧
      t.gw.route = s.gw.routeHit p f ∧ Latched .meterExceed t.gw ∧
      ((s.gw.meter k).mode = .drop →
        (t.gw.port p).role = .answered .nakRefuse ∧ t.gw.free = s.gw.free ∧
          t.gw.port p.other = s.gw.port p.other ∧
          CountedAll [portCounterIndex p .rxGood, portCounterIndex p .refused, exceedIndex k] s.gw t.gw) ∧
      ((s.gw.meter k).mode = .pause →
        (t.gw.port p).role = .answered .nakBusy ∧ t.gw.free = s.gw.free ∧
          t.gw.port p.other = s.gw.port p.other ∧ s.gw.AskTaken t.gw p ∧
          CountedAll [portCounterIndex p .rxGood, portCounterIndex p .busy, exceedIndex k] s.gw t.gw) ∧
      ((s.gw.meter k).mode = .hold → (s.gw.port p).words.holdLimit ≠ 0 →
        (t.gw.port p).role = .holding ((s.gw.port p).words.holdLimit.toNat * 64) false ∧
          t.gw.free = s.gw.free ∧
          (t.gw.port p).record.bind DecisionRecord.treatment = some (true, .hold) ∧
          CountedAll [portCounterIndex p .rxGood, portCounterIndex p .held, exceedIndex k] s.gw t.gw) ∧
      ((s.gw.meter k).mode = .hold → (s.gw.port p).words.holdLimit = 0 →
        (t.gw.port p).role = .answered .nakBusy ∧ t.gw.free = s.gw.free ∧
          CountedAll [portCounterIndex p .rxGood, portCounterIndex p .busy, exceedIndex k] s.gw t.gw) ∧
      ((s.gw.meter k).mode = .mark →
        (t.gw.port p).role = .answered .ack ∧ t.gw.free + 1 = s.gw.free ∧
          (t.gw.port p.other).urgent = (s.gw.port p.other).urgent ∧
          (t.gw.port p.other).normal =
            (s.gw.port p.other).normal ++
              [⟨⟨rewriteFrame (s.gw.routeRecord p f) f, p, .claimed, false⟩, 0⟩] ∧
          CountedAll [portCounterIndex p .rxGood, portCounterIndex p .claimed, exceedIndex k] s.gw t.gw)

/-- Management acceptance (R68, R69, R118, R119): with agent room and a free buffer the request is claimed
unchanged into the agent queue with the access level and own address as read; a free agent with no other WAITING
entry begins its execution. -/
def Obligations.ManagementRequestIsQueued : Prop :=
  ∀ (s : State) (p : PortId) (f : Frame) (own : OwnAddress), s.gw.Receives p f → s.gw.Settled →
    f.kind ≠ kindPause → s.gw.takes p f = some own → s.gw.agentQueue.length < 2 → 1 ≤ s.gw.free →
    s.gw.general.noticeEnable = false →
    ∃ t, exec (completion p f) s = .next t ∧ t.pending = s.pending ∧
      AllBut [.portA, .portB, .free, .counters, .agentQueue, .exec, .monitor] s.gw t.gw ∧
      (t.gw.port p).role = .answered .ack ∧ t.gw.free + 1 = s.gw.free ∧
      (s.gw.exec ≠ none ∨ s.gw.restart ≠ .none →
        t.gw.exec = s.gw.exec ∧
          t.gw.agentQueue =
            s.gw.agentQueue ++ [⟨⟨f, p, .request, false⟩, own, (s.gw.port p).words.access, .waiting, false⟩] ∧
          CountedAll [portCounterIndex p .rxGood, portCounterIndex p .claimed] s.gw t.gw) ∧
      (s.gw.exec = none → s.gw.restart = .none → s.gw.agentQueue.find? AgentEntry.isWaiting = none →
        t.gw.exec = some ⟨false, 0, 0, [], [], [], 0⟩ ∧
          t.gw.agentQueue =
            s.gw.agentQueue ++
              [⟨⟨f, p, .request, false⟩, own, (s.gw.port p).words.access, .executing, false⟩] ∧
          CountedAll
            [portCounterIndex p .rxGood, portCounterIndex p .claimed, deviceCounterIndex .agentRequests]
            s.gw t.gw)

/-- A DIVERT frame is claimed into the capture queue with its rewrite and tag operation, its hop count as
received (R78, R95, R101, R135). -/
def Obligations.DivertedFrameIsCaptured : Prop :=
  ∀ (s : State) (p : PortId) (f : Frame), s.gw.Receives p f → s.gw.Settled → s.gw.Routes p f →
    (s.gw.routeRecord p f).action = some .divert → 2 ≤ s.gw.free → s.gw.capture.length < 4 →
    s.gw.general.noticeEnable = false →
    let r := s.gw.routeRecord p f
    ∃ t, exec (completion p f) s = .next t ∧ t.pending = s.pending ∧
      AllBut [.portA, .portB, .free, .route, .counters, .capture, .monitor] s.gw t.gw ∧
      (t.gw.port p).role = .answered .ack ∧ t.gw.free + 1 = s.gw.free ∧ t.gw.route = s.gw.routeHit p f ∧
      CountedAll [portCounterIndex p .rxGood, portCounterIndex p .claimed] s.gw t.gw ∧
      t.gw.monitor.history.capturePending = true ∧
      t.gw.capture =
        s.gw.capture ++
          [{ frame :=
               { f with
                 dest := r.rewrite.getD f.dest
                 tag := match r.tagOp with
                   | .none => f.tag
                   | .insert => some r.tagValue
                   | .strip => none }
             ingress := p, origin := .claimed, awaited := false }]

/-! ## Holds -/

/-- A prompted re-test (R69, R78, R86, R87): one that does not find what the hold waits for leaves it holding, a
management or DIVERT hold that finds room is claimed with ACK; a hold that no event has prompted is not re-tested
(entry 4). -/
def Obligations.RetestTestsWhatWasWaitedFor : Prop :=
  ∀ (s : State) (p : PortId) (timer : Nat) (retest : Bool) (r : DecisionRecord) (st : Staged),
    (s.gw.port p).role = .holding timer retest → (s.gw.port p).record = some r →
    (s.gw.port p).staging = some st → s.gw.Settled →
    ∃ t, exec (.holdRetest p) s = .next t ∧ t.pending = s.pending ∧
      ((retest = false ∨ (r.path = .management ∧ (2 ≤ s.gw.agentQueue.length ∨ s.gw.free = 0)) ∨
          (r.path ≠ .management ∧ r.action = some .divert ∧ (s.gw.free < 2 ∨ 4 ≤ s.gw.capture.length)) ∨
          (r.path ≠ .management ∧ r.action = some .forward ∧
            (s.gw.free < 2 ∨ 24 ≤ (s.gw.port p.other).egressCount ∨ (s.gw.port p.other).state ≠ .active))) →
        AllBut [portPart p] s.gw t.gw ∧ t.gw.port p = { s.gw.port p with role := .holding timer false }) ∧
      (retest = true → r.path = .management → s.gw.agentQueue.length < 2 → 1 ≤ s.gw.free →
        s.gw.general.noticeEnable = false →
        AllBut [.portA, .portB, .free, .counters, .agentQueue, .exec, .monitor] s.gw t.gw ∧
          (t.gw.port p).role = .answered .ack ∧ t.gw.free + 1 = s.gw.free ∧
          t.gw.agentQueue.length = s.gw.agentQueue.length + 1 ∧
          (t.gw.agentQueue.map AgentEntry.buf).getLast? = some ⟨st.frame, p, .request, false⟩) ∧
      (retest = true → r.path ≠ .management → r.action = some .divert → 2 ≤ s.gw.free →
        s.gw.capture.length < 4 → s.gw.general.noticeEnable = false →
        AllBut [.portA, .portB, .free, .counters, .capture, .monitor] s.gw t.gw ∧
          (t.gw.port p).role = .answered .ack ∧ t.gw.free + 1 = s.gw.free ∧
          Counted (portCounterIndex p .claimed) s.gw t.gw ∧
          t.gw.capture = s.gw.capture ++ [⟨rewriteFrame r st.frame, p, .claimed, false⟩])

/-- A prompted re-test of a FORWARD hold that finds capacity (R87, R105, R107 to R112): the recorded treatment decides,
not the meter as it is now written. A claim takes a buffer, debits the credit as it stands, and puts the rewritten
frame into the queue its record names, or NORMAL under MARK; a refusal and a busy answer are counted, and PAUSE asks the
receiving port; a frame not yet reported is reported once. Shown with the egress slot full and notices off. -/
def Obligations.RetestFollowsRecordedTreatment : Prop :=
  ∀ (s : State) (p : PortId) (timer : Nat) (r : DecisionRecord) (st : Staged),
    (s.gw.port p).role = .holding timer true → (s.gw.port p).record = some r →
    (s.gw.port p).staging = some st → s.gw.Settled → r.path ≠ .management → r.action = some .forward →
    2 ≤ s.gw.free → (s.gw.port p.other).egressCount < 24 → (s.gw.port p.other).state = .active →
    s.gw.general.noticeEnable = false → (s.gw.port p.other).slot ≠ .empty →
    let short := fun k => (s.gw.meter k).credit.toNat < r.byteCount
    let b : PoolBuffer :=
      { frame :=
          { st.frame with
            dest := r.rewrite.getD st.frame.dest
            tag := match r.tagOp with
              | .none => st.frame.tag
              | .insert => some r.tagValue
              | .strip => none
            hop := st.frame.hop - 1 }
        ingress := p, origin := .claimed, awaited := false }
    let joins := fun (t : State) (urgent : Prop) =>
      (t.gw.port p).role = .answered .ack ∧ t.gw.free + 1 = s.gw.free ∧
        (urgent → (t.gw.port p.other).urgent = (s.gw.port p.other).urgent ++ [⟨b, 0⟩] ∧
          (t.gw.port p.other).normal = (s.gw.port p.other).normal) ∧
        (¬ urgent → (t.gw.port p.other).urgent = (s.gw.port p.other).urgent ∧
          (t.gw.port p.other).normal = (s.gw.port p.other).normal ++ [⟨b, 0⟩])
    ∃ t, exec (.holdRetest p) s = .next t ∧ t.pending = s.pending ∧
      AllBut [.portA, .portB, .free, .meters, .counters, .monitor] s.gw t.gw ∧
      ((r.meter = none ∨ r.treatment = none ∨ r.treatment.map Prod.fst = some false ∨
          ∃ k ∈ r.meter, ¬ short k) →
        joins t (r.queue = some .urgent) ∧ Counted (portCounterIndex p .claimed) s.gw t.gw) ∧
      (r.meter = none ∨ r.treatment = none ∨ r.treatment.map Prod.fst = some false →
        t.gw.meters = s.gw.meters) ∧
      (∀ k mode, r.meter = some k → r.treatment = some (true, mode) → short k →
        let reports := if r.reported then [] else [exceedIndex k]
        (mode = .hold → (t.gw.port p).role = .holding timer false ∧ t.gw.free = s.gw.free ∧
          CountedAll reports s.gw t.gw) ∧
        (mode = .drop → (t.gw.port p).role = .answered .nakRefuse ∧ t.gw.free = s.gw.free ∧
          CountedAll (portCounterIndex p .refused :: reports) s.gw t.gw) ∧
        (mode = .pause → (t.gw.port p).role = .answered .nakBusy ∧ t.gw.free = s.gw.free ∧
          ((s.gw.port p).state = .active → s.gw.AskTaken t.gw p) ∧ CountedAll (portCounterIndex p .busy :: reports) s.gw t.gw) ∧
        (mode = .mark → joins t False ∧ CountedAll (portCounterIndex p .claimed :: reports) s.gw t.gw) ∧
        (mode ≠ .mark → t.gw.port p.other = s.gw.port p.other) ∧
        t.gw.meters = s.gw.meters ∧ (r.reported = false → Latched .meterExceed t.gw)) ∧
      (∀ k mode, r.meter = some k → r.treatment = some (true, mode) → ¬ short k → k < s.gw.meters.length →
        (t.gw.meter k).credit.toNat + r.byteCount = (s.gw.meter k).credit.toNat)

/-- R89: when the timer of a hold expires its outcome becomes NAK-BUSY; BUSY is counted and HOLD_EXPIRED reported, and
nothing else, so the Meter Bank hears nothing. The port no longer holds the line and answers with the levels of
NAK-BUSY in the response bits, dominant then recessive, and its next end delimiter drops the staged frame. -/
def Obligations.HoldExpiryAnswersBusy : Prop :=
  ∀ (s : State) (p : PortId) (r : DecisionRecord), (s.gw.port p).isHolding = true →
    (s.gw.port p).record = some r → s.gw.Settled →
    ∃ t, exec (.holdExpiry p) s = .next t ∧ t.pending = s.pending ∧
      AllBut (.counters :: latchParts) s.gw t.gw ∧ Counted (portCounterIndex p .busy) s.gw t.gw ∧
      Latched (.holdExpired p) t.gw ∧ (t.gw.port p).role = .answered .nakBusy ∧
      (t.gw.port p).role.levels = (true, false) ∧
      (t.gw.port p).staging = (s.gw.port p).staging ∧
      (t.gw.port p).record = some { r with outcome := .answer .nakBusy } ∧
      ((s.gw.port p).state = .active → (s.gw.port p).rx = .rSlot → r.path ≠ .pause →
        ∃ u, exec (.endDelimiter p) t = .next u ∧ AllBut [portPart p] t.gw u.gw ∧
          (u.gw.port p).staging = none ∧ (u.gw.port p).role = .nonClaimant ∧ (u.gw.port p).rx = .rIdle)

/-- At its end time a PAUSED port becomes RUNNING and makes an egress selection (R37, R57, R58, R60): with nothing
queued nothing else changes; an URGENT head that is not old moves to the empty slot; an old head is discarded, AGED
counted and reported and its buffer returned, and the next head, of URGENT and then of NORMAL, is examined: one that is
not old moves to the slot, and with none left the slot stays empty. A head as old as the limit is not old, and with
limit 0 none is. The discards are shown with pool pause and notices off. -/
def Obligations.PauseExpiryResumes : Prop :=
  ∀ (s : State) (p : PortId) (bits : Nat), (s.gw.port p).pause = .paused bits → s.gw.Settled →
    ∃ t, exec (.pauseExpiry p) s = .next t ∧ t.pending = s.pending ∧ (t.gw.port p).pause = .running ∧
      ((s.gw.port p).urgent = [] → (s.gw.port p).normal = [] →
        AllBut [portPart p] s.gw t.gw ∧ t.gw.port p = { s.gw.port p with pause := .running }) ∧
      (∀ e rest, (s.gw.port p).state = .active → (s.gw.port p).slot = .empty →
        (s.gw.port p).urgent = e :: rest →
        ((s.gw.port p).words.ageLimit = 0 ∨ e.age ≤ (s.gw.port p).words.ageLimit.toNat →
          AllBut [portPart p] s.gw t.gw ∧ (t.gw.port p).slot = .pool e.buf ∧ (t.gw.port p).urgent = rest ∧
            (t.gw.port p).normal = (s.gw.port p).normal ∧ (t.gw.port p).attempts = 0 ∧
            (t.gw.port p).tx = .tWaitIdle) ∧
        ((s.gw.port p).words.ageLimit ≠ 0 → (s.gw.port p).words.ageLimit.toNat < e.age →
          s.gw.general.noticeEnable = false → s.gw.general.poolPause = false →
          let onlyFirst := fun (slot : TxSlot) (urgent normal : List QueueEntry) =>
            AllBut [.portA, .portB, .free, .counters, .agentQueue, .restart, .monitor] s.gw t.gw ∧
              (t.gw.port p).slot = slot ∧ (t.gw.port p).urgent = urgent ∧ (t.gw.port p).normal = normal ∧
              t.gw.free = s.gw.free + 1 ∧ Latched (.aged p) t.gw ∧
              Counted (portCounterIndex p .aged) s.gw t.gw
          (rest = [] → (s.gw.port p).normal = [] → onlyFirst .empty [] []) ∧
          (∀ e' rest', rest = e' :: rest' → e'.age ≤ (s.gw.port p).words.ageLimit.toNat →
            onlyFirst (.pool e'.buf) rest' (s.gw.port p).normal) ∧
          (∀ e' rest', rest = [] → (s.gw.port p).normal = e' :: rest' →
            e'.age ≤ (s.gw.port p).words.ageLimit.toNat → onlyFirst (.pool e'.buf) [] rest')))

/-! ## Sending -/

/-- A start bit is driven only by an ACTIVE port whose frame waits, whose view has been idle for the back-off of
its attempt count, and which is RUNNING or sends its own PAUSE frame; what is sent is read then, the tag stripped
when the strip flag is on, with a new check over it (R29, R97, R98). The later points of the transmission follow
(entry 7). -/
def Obligations.TransmissionReachesItsPoints : Prop :=
  ∀ (s : State) (p : PortId),
    let q := s.gw.port p
    let may := q.tx = .tWaitIdle ∧ q.state = .active ∧ (∃ n, q.view = .idle n ∧ 32 * q.attempts ≤ n) ∧
      (q.pause = .running ∨ ∃ f, q.slot = .pause f)
    (∃ t, exec (.transmitStart p .startBit) s = .next t ∧ t.pending = s.pending ∧ AllBut [portPart p] s.gw t.gw ∧
      (¬ may → t.gw = s.gw) ∧
      (may → t.gw.port p = { q with tx := .tArb, view := .inFrame, tolerance := none, sending := (t.gw.port p).sending } ∧
        (∀ b, q.slot = .pool b →
          let bytes := (if q.words.strip then { b.frame with tag := none } else b.frame).bytes
          (t.gw.port p).sending = some ⟨bytes, crc bytes, stuff (frameBits bytes (crc bytes))⟩) ∧
        (∀ f, q.slot = .pause f →
          (t.gw.port p).sending = some ⟨f.bytes, crc f.bytes, stuff (frameBits f.bytes (crc f.bytes))⟩))) ∧
    (∃ t, exec (.transmitStart p .fieldEnd) s = .next t ∧ t.pending = s.pending ∧ AllBut [portPart p] s.gw t.gw ∧
      t.gw.port p = { q with tx := if q.tx = .tArb then .tSend else q.tx }) ∧
    (∃ t, exec (.transmitStart p .checkEnd) s = .next t ∧ t.pending = s.pending ∧ AllBut [portPart p] s.gw t.gw ∧
      (q.tx = .tArb ∨ q.tx = .tSend → t.gw.port p = { q with tx := .tSlot, view := .inSlot }) ∧
      (¬ (q.tx = .tArb ∨ q.tx = .tSend) → t.gw = s.gw)) ∧
    (∃ t, exec (.transmitStart p .claimBit) s = .next t ∧ t.pending = s.pending ∧ AllBut [portPart p] s.gw t.gw ∧
      (q.tx = .tArb ∨ q.tx = .tSend ∨ q.tx = .tSlot →
        t.gw.port p =
          { q with tx := .tSlot, view := .inSlot, tolerance := some q.words.holdTolerance.toNat }) ∧
      (q.tx = .tIdle ∨ q.tx = .tWaitIdle → t.gw = s.gw))

/-- A transmission broken off. Lost arbitration counts ARB_LOST and is no attempt: the winner's frame is received
and the own one waits with its count (R10, R30); a port that is not in its arbitration field loses none (entry 1). A
collision and a hold beyond the tolerance are failed attempts with the view resynchronising: within the retry limit the
frame waits again, beyond it TX_FAILED counts, RETRY is latched and the slot empties (R11, R15, R31, R33, R34). After a
collision the port drives the abort pattern, seven dominant bits (R11, R31; how long the field stands is entry 33),
which no receiver can read through: whatever bits it has read, it finds a symbol error in them or in the pattern (R6,
R11). The hold beyond tolerance may come with the points before it unsaid (entry 7). -/
def Obligations.BrokenTransmissions : Prop :=
  ∀ (s : State) (p : PortId), s.gw.Settled →
    let q := s.gw.port p
    let seven := [false, false, false, false, false, false, false]
    (∀ read : List Bool, destuff (read ++ seven) = none) ∧
    (∃ t, exec (.arbLost p) s = .next t ∧ t.pending = s.pending ∧ AllBut [portPart p, .counters] s.gw t.gw ∧
      (q.tx = .tArb → Counted (portCounterIndex p .arbLost) s.gw t.gw ∧
        t.gw.port p = { q with tx := .tWaitIdle, rx := .rFrame, sending := none }) ∧
      (q.tx ≠ .tArb → t.gw = s.gw)) ∧
    (∀ c : Instr,
      (c = .collision p ∧ (q.tx = .tArb ∨ q.tx = .tSend)) ∨
        (c = .holdBeyondTolerance p ∧ (q.tx = .tArb ∨ q.tx = .tSend ∨ q.tx = .tSlot)) →
      ∃ t, exec c s = .next t ∧ t.pending = s.pending ∧
        (t.gw.port p).abort = (if c = .collision p then seven else q.abort) ∧
        (q.attempts + 1 ≤ q.words.retryLimit.toNat →
          AllBut [portPart p] s.gw t.gw ∧
            t.gw.port p =
              { q with
                view := .resync 0
                abort := (t.gw.port p).abort
                attempts := q.attempts + 1
                tx := .tWaitIdle
                sending := none
                tolerance := none }) ∧
        (q.words.retryLimit.toNat < q.attempts + 1 → q.urgent = [] → q.normal = [] → q.pendingPause = false →
          s.gw.general.noticeEnable = false → s.gw.general.poolPause = false →
          AllBut [.portA, .portB, .free, .counters, .agentQueue, .restart, .monitor] s.gw t.gw ∧
            Counted (portCounterIndex p .txFailed) s.gw t.gw ∧ Latched (.retry p) t.gw ∧
            (t.gw.port p).slot = .empty ∧ (t.gw.port p).tx = .tIdle ∧ (t.gw.port p).attempts = 0 ∧
            (t.gw.port p).view = .resync 0 ∧ t.gw.free = s.gw.free + q.slot.poolFrames))

/-- The outcome a sender takes at the end delimiter, its hold within tolerance (R13, R14, R32 to R34): a group
frame and the port's own PAUSE frame are done, claimed or not; any other frame is done on ACK, given up at once on
NAK-REFUSE, and has failed an attempt when unclaimed or busy. The tolerance is the one read at the claim bit, or now
(entry 7). A frame that has failed its last attempt, by silence or NAK-BUSY, is given up with RETRY latched, and a
refused one latches no RETRY. The end of a pool frame returns its buffer and lowers the egress count: every hold is
marked for its re-test, and the replies that wait for the port for their re-offer (R49, R53, R87, R126; entry 4). The
ends are shown with nothing else to send, pool pause off and notices off. The levels of R1 and R2 that the claimants
drive are read together: ACK where one answers ACK, or one busy and one refuse; NAK-BUSY where all that answer are busy;
NAK-REFUSE where all refuse, or none drives either bit (R13). -/
def Obligations.TransmitOutcomes : Prop :=
  ∀ (s : State) (p : PortId) (read : SlotRead), s.gw.Settled →
    ((s.gw.port p).tx = .tArb ∨ (s.gw.port p).tx = .tSend ∨ (s.gw.port p).tx = .tSlot) →
    (∀ hold r1 r2, read = .claimed hold r1 r2 →
      hold ≤ 64 * (s.gw.port p).tolerance.getD (s.gw.port p).words.holdTolerance.toNat) →
    let q := s.gw.port p
    let ended := fun (t : State) (c : PortCounter) (n : Nat) =>
      AllBut [.portA, .portB, .free, .counters, .agentQueue, .restart, .monitor] s.gw t.gw ∧
        Counted (portCounterIndex p c) s.gw t.gw ∧ (t.gw.port p).slot = .empty ∧ (t.gw.port p).tx = .tIdle ∧
        (t.gw.port p).attempts = 0 ∧ (t.gw.port p).view = .gap 0 ∧ t.gw.free = s.gw.free + n ∧
        t.gw.agentQueue =
          s.gw.agentQueue.map (fun e =>
            if n = 1 ∧ e.state = .replyWait ∧ e.buf.ingress = p then { e with offerDue := true } else e) ∧
        (n = 1 → ∀ x timer retest r, (s.gw.port x).role = .holding timer retest → (s.gw.port x).record = some r →
          (t.gw.port x).role = .holding timer true)
    let failed := ∃ b, q.slot = .pool b ∧ isGroup b.frame.dest = false ∧
      (read = .unclaimed ∨ ∃ hold, read = .claimed hold true false)
    let alone := q.urgent = [] ∧ q.normal = [] ∧ q.pendingPause = false ∧ s.gw.general.noticeEnable = false ∧
      s.gw.general.poolPause = false
    (∀ roles : List SlotRole,
      let line := wiredLevels (roles.map SlotRole.levels)
      ((.answered .ack ∈ roles ∨ (.answered .nakBusy ∈ roles ∧ .answered .nakRefuse ∈ roles)) →
        line = (true, true)) ∧
      ((∀ r, .answered r ∈ roles → r = .nakBusy) → .answered .nakBusy ∈ roles → line = (true, false)) ∧
      ((∀ r, .answered r ∈ roles → r = .nakRefuse) → .answered .nakRefuse ∈ roles → line = (false, true)) ∧
      ((∀ r, .answered r ∉ roles) → line = (false, false))) ∧
    ∃ t, exec (.transmitOutcome p read) s = .next t ∧ t.pending = s.pending ∧
      (∀ f, q.slot = .pause f → alone → ended t .pauseTx 0) ∧
      (∀ b, q.slot = .pool b → alone →
        (isGroup b.frame.dest = true ∨ ∃ hold, read = .claimed hold true true) → ended t .txDone 1) ∧
      (∀ b hold r1 r2, q.slot = .pool b → alone → isGroup b.frame.dest = false → read = .claimed hold r1 r2 →
        r1 = false → ended t .txFailed 1 ∧ t.gw.monitor.flags0 = s.gw.monitor.flags0) ∧
      (failed → alone → q.words.retryLimit.toNat < q.attempts + 1 →
        ended t .txFailed 1 ∧ Latched (.retry p) t.gw) ∧
      (failed → q.attempts + 1 ≤ q.words.retryLimit.toNat →
        AllBut [portPart p] s.gw t.gw ∧
          t.gw.port p =
            { q with
              view := .gap 0
              attempts := q.attempts + 1
              tx := .tWaitIdle
              sending := none
              tolerance := none })

/-! ## The agent -/

/-- At the end of its decode a payload that is a tag, a count of 1-16 and that many operations with nothing after
them runs them, each with its operands as written; any other payload is malformed: AGENT_MALFORMED counts,
REQUEST_MALFORMED is latched, nothing runs, and the reply has three bytes (R121, R122, R182, R183). -/
def Obligations.RequestDecodeJudges : Prop :=
  ∀ (s : State) (ex : Execution) (e : AgentEntry), s.gw.exec = some ex → ex.decoded = false →
    s.gw.executing = some e →
    let payload := e.buf.frame.payload
    let wellFormed := fun (tag : Byte) (ops : List Op) =>
      payload = tag :: BitVec.ofNat 8 ops.length :: ops.flatMap Op.bytes ∧ 1 ≤ ops.length ∧ ops.length ≤ 16 ∧
        ops.all Op.fits = true
    ∃ t, exec .requestDecode s = .next t ∧ t.pending = s.pending ∧
      (∀ tag ops, wellFormed tag ops →
        AllBut [.exec] s.gw t.gw ∧
          t.gw.exec = some { ex with decoded := true, tag := tag, count := ops.length, ops := ops }) ∧
      ((∀ tag ops, ¬ wellFormed tag ops) → s.gw.Settled → s.gw.general.noticeEnable = false →
        AllBut (.counters :: replyParts) s.gw t.gw ∧ Latched .requestMalformed t.gw ∧
          (s.gw.counters.length = 48 →
            t.gw.counters.getD (deviceCounterIndex .agentMalformed) 0 =
              s.gw.counters.getD (deviceCounterIndex .agentMalformed) 0 + 1) ∧
          (s.gw.QueuesReply e → s.gw.RepliesWith t.gw e [payload.headD 0, 0x01, 0x00] false))

/-- A waiting reply whose re-offer is prompted joins its port's URGENT queue when the port now admits it; when it
is still full the entry waits on. With no such entry the command changes nothing (R55, R126, entry 4). The entry that
leaves the agent queue marks management holds for their re-test (R87, entry 4). -/
def Obligations.WaitingReplyIsReoffered : Prop :=
  ∀ (s : State) (p : PortId), s.gw.Settled →
    ∃ t, exec (.replyReoffer p) s = .next t ∧ t.pending = s.pending ∧
      ((∀ e ∈ s.gw.agentQueue, AgentEntry.offerOn p e = false) → t.gw = s.gw) ∧
      (∀ before e after, s.gw.agentQueue = before ++ e :: after →
        (∀ x ∈ before, AgentEntry.offerOn p x = false) → AgentEntry.offerOn p e = true →
        ((s.gw.port p).online = true → (s.gw.port p).egressCount < 24 → (s.gw.port p).slot ≠ .empty →
          AllBut [.portA, .portB, .agentQueue] s.gw t.gw ∧ t.gw.agentQueue = before ++ after ∧
            (t.gw.port p).urgent = (s.gw.port p).urgent ++ [⟨e.buf, 0⟩] ∧
            (t.gw.port p).normal = (s.gw.port p).normal ∧
            ∀ x timer retest r, (s.gw.port x).role = .holding timer retest → (s.gw.port x).record = some r →
              (t.gw.port x).role = .holding timer (retest || decide (r.path = .management))) ∧
        ((s.gw.port p).online = true → 24 ≤ (s.gw.port p).egressCount →
          AllBut [.agentQueue] s.gw t.gw ∧
            t.gw.agentQueue = before ++ { e with offerDue := false } :: after))

/-- Reading operations take their words one at a time, each as it stands when it is taken, and are done with the
last (R120, R123, R125, R128, R131, R133, R134): IDENT's eight words, READ's from the window with wrap at the
table's end, a block's counters, the six event words. `k` words are taken in this step (entry 5). Only READ moves
the window, when it is done. The words that are computed: IDENT's eight, with the start cause and the serial words of a
WRITTEN page 0 (R131); flags, masks, edge selects and the five levels (R134, R189); a port's status view (R44, R185). -/
def Obligations.ReadingOperationsTakeWords : Prop :=
  ∀ (s : State) (ex : Execution) (op : Op) (k n : Nat) (word : Nat → Word), s.gw.Succeeds ex op → s.gw.Settled →
    1 ≤ k → ex.taken.length < n →
    ((op = .ident ∧ n = 8 ∧ word = s.gw.identWord) ∨
      (op = .read n ∧ word = fun j =>
        s.gw.tableWord s.gw.windowTable ((s.gw.windowIndex + j) % s.gw.windowTable.size)) ∨
      (∃ block : Byte, op = .counters block ∧ n = (if block.toNat ≤ 1 then 14 else if block = 2 then 4 else 16) ∧
        word = fun j =>
          s.gw.counters.getD
            ((if block = 0 then 0 else if block = 1 then 14 else if block = 2 then 28 else 32) + j) 0) ∨
      (op = .eventsRead ∧ n = 6 ∧ word = s.gw.eventWord)) →
    let taken := ex.taken ++ (List.range (min k (n - ex.taken.length))).map fun i => word (ex.taken.length + i)
    let page := s.gw.store.pageAt 0
    (List.range 8).map s.gw.identWord =
      ([0x3A15, 0x4120, 0x0002,
        (match s.gw.startCause with
          | .power => 0
          | .line => 1
          | .request => 2)] : List Word) ++
        (List.range 4).map (fun i => if page.state = .written then page.words.getD i 0 else 0) ∧
    (List.range 5).map s.gw.eventWord =
      [s.gw.monitor.flags0, s.gw.monitor.flags1, s.gw.general.mask0, s.gw.general.mask1, s.gw.general.edgeSelect] ∧
    (List.range 16).map (s.gw.eventWord 5).getLsbD =
      [s.gw.portA.linkUp, s.gw.portB.linkUp, decide (s.gw.free ≤ s.gw.general.poolMark), !s.gw.capture.isEmpty,
        decide (s.gw.store.state ≠ .sIdle)] ++ List.replicate 11 false ∧
    (∀ j < 6, s.gw.tableWord .events j = s.gw.eventWord j) ∧
    (∀ p : PortId, let q := s.gw.port p
      let w := s.gw.tableWord .port (if p = .a then 7 else 15)
      (∀ j < 7, s.gw.tableWord .port ((if p = .a then 0 else 8) + j) = q.words.get j) ∧
      field w 14 2 = (if q.state = .active then 2 else if q.state = .linkDown then 1 else 0) ∧
      w.getLsbD 13 = q.linkUp ∧ w.getLsbD 12 = decide (q.pause ≠ .running) ∧ w.getLsbD 11 = q.pendingPause ∧
      field w 9 2 = (match q.slot with
        | .empty => 0
        | .pool _ => 1
        | .pause _ => 2) ∧
      w.getLsbD 8 = q.isHolding ∧ field w 4 4 = 0 ∧ (q.attempts ≤ 15 → field w 0 4 = q.attempts)) ∧
    ∃ t, exec (op.command k) s = .next t ∧ t.pending = s.pending ∧
      (ex.taken.length + k < n → AllBut [.exec] s.gw t.gw ∧ t.gw.exec = some { ex with taken := taken }) ∧
      (n ≤ ex.taken.length + k → ex.ops.tail ≠ [] →
        taken.length = n ∧ t.gw.exec = some (ex.after .ok (wordsBytes taken) n) ∧
          (op ≠ .read n → AllBut [.exec] s.gw t.gw) ∧
          (op = .read n →
            AllBut [.exec, .window] s.gw t.gw ∧ t.gw.windowTable = s.gw.windowTable ∧
              t.gw.windowIndex = (s.gw.windowIndex + n) % s.gw.windowTable.size))

/-- SELECT sets the window to a table 0-6 and an index inside it, and nothing else (R127); as the last operation of
its request it ends the execution with the reply (R119, R125, R126). -/
def Obligations.SelectMovesWindow : Prop :=
  ∀ (s : State) (ex : Execution) (table : Byte) (index : Word), s.gw.Runs ex (.select table index) →
    s.gw.Settled → table.toNat ≤ 6 →
    index.toNat < [16, 11, 8, 64, 768, 48, 6].getD table.toNat 0 →
    ∃ t, exec .select s = .next t ∧ t.pending = s.pending ∧
      some t.gw.windowTable =
        [Table.port, .general, .group, .meter, .route, .counters, .events][table.toNat]? ∧
      t.gw.windowIndex = index.toNat ∧
      (ex.ops.tail ≠ [] → AllBut [.window, .exec] s.gw t.gw ∧ t.gw.exec = some (ex.after .ok [] 0)) ∧
      (ex.ops.tail = [] → AllBut (.window :: replyParts) s.gw t.gw ∧
        ∀ e, s.gw.QueuesReply e →
          s.gw.RepliesWith t.gw e (ex.tag :: 0x00 :: BitVec.ofNat 8 ex.count :: (ex.results ++ [0x00, 0x00])) false)

/-- A failed operation has no effect: its status stands with no data, every later operation is SKIPPED, and the
execution ends with the reply in the same event (entry 9) (R123 to R125, R127 to R130, R132, R133, R136 to R140, R142).
When an operation fails is `Gateway.Fails`, by the checks of each rule in their order; a WRITE fails PROTECTED on the
indices of `Gateway.GuardedWord` (R43, R72, R130) and BAD_OPERAND on the values of `ValueRefused` (R43, R52, R114,
R115). -/
def Obligations.FailedOperationEndsExecution : Prop :=
  ∀ (s : State) (ex : Execution) (op : Op) (status : OpStatus) (k : Nat), s.gw.Runs ex op →
    s.gw.Fails ex op status → s.gw.Settled →
    ∃ t, exec (op.command k) s = .next t ∧ t.pending = s.pending ∧ AllBut replyParts s.gw t.gw ∧
      ∀ e, s.gw.QueuesReply e →
        AllBut [.portA, .portB, .counters, .agentQueue, .exec] s.gw t.gw ∧
          s.gw.RepliesWith t.gw e
            (ex.tag :: 0x00 :: BitVec.ofNat 8 ex.count ::
              (ex.results ++ [status.code, 0x00] ++ skippedBytes ex.ops.tail.length)) false

/-- A WRITE that passes its checks writes all its words as one event, the later of two words for one index
standing, and moves the window past them (R43, R73, R75, R113, R115, R129, R130): unused bits of PORT and METER
words are ignored, a route entry's word 11 is cleared whatever is written, and a meter whose burst or credit was
written has its credit limited and the FORWARD holds that name it marked for their re-test (R87, entry 4). What a change
of mode does is the next statement; its word is written here too. -/
def Obligations.WriteAppliesItsWords : Prop :=
  ∀ (s : State) (ex : Execution) (ws : List Word) (i : Nat), s.gw.Succeeds ex (.write ws) → s.gw.Settled →
    ex.ops.tail ≠ [] → i < s.gw.windowTable.size →
    let t0 := s.gw.windowTable
    let targets := ws.zipIdx.map fun wj => ((s.gw.windowIndex + wj.2) % t0.size, wj.1)
    let new := fun j => lastWritten targets j (s.gw.tableWord t0 j)
    ∃ t, exec .write s = .next t ∧ t.pending = s.pending ∧ t.gw.exec = some (ex.after .ok [] ws.length) ∧
      t.gw.windowTable = t0 ∧ t.gw.windowIndex = (s.gw.windowIndex + ws.length) % t0.size ∧
      (t0 = .group → s.gw.group.length = 8 →
        AllBut [.exec, .window, .group] s.gw t.gw ∧ t.gw.group.getD i 0 = new i) ∧
      (t0 = .route → s.gw.route.length = 768 →
        AllBut [.exec, .window, .route] s.gw t.gw ∧ routeWellFormed t.gw.route = true ∧
          t.gw.route.getD i 0 = (if i % 12 = 11 ∧ ∃ iw ∈ targets, iw.1 = i then 0 else new i)) ∧
      (t0 = .general → t.gw.general.get i = new i ∧
        AllBut (.exec :: .window :: .general :: latchParts) s.gw t.gw) ∧
      (t0 = .meter → s.gw.meters.length = 16 → (∀ m ∈ s.gw.meters, m.Ok) →
        AllBut [.exec, .window, .meters, .portA, .portB] s.gw t.gw ∧
          (i % 4 = 0 → (t.gw.meter (i / 4)).control = new i &&& 0x8003) ∧
          (i % 4 = 1 → (t.gw.meter (i / 4)).rate = new i) ∧
          (i % 4 = 2 → (t.gw.meter (i / 4)).burst = new i) ∧
          (i % 4 = 3 → (t.gw.meter (i / 4)).credit.toNat =
            min (new i).toNat (t.gw.meter (i / 4)).burst.toNat) ∧
          ∀ x timer retest r, (s.gw.port x).role = .holding timer retest → (s.gw.port x).record = some r →
            (t.gw.port x).role =
              .holding timer
                (retest || (decide (r.action = some .forward) &&
                  targets.any fun iw => decide (r.meter = some (iw.1 / 4) ∧ 2 ≤ iw.1 % 4)))) ∧
      (t0 = .port → s.gw.portA.words.InRange → s.gw.portB.words.InRange → i % 8 ≠ 7 →
        let p : PortId := if i < 8 then .a else .b
        (t.gw.port p).words.get (i % 8) = new i &&& portMask (i % 8) ∧
          ((∀ x : PortId, (t.gw.port x).words.modeOnline = (s.gw.port x).words.modeOnline ∧
              rateCode (t.gw.port x).words.control = rateCode (s.gw.port x).words.control ∧
              (s.gw.port x).words.modeOnline = (s.gw.port x).online ∧ (s.gw.port x).state ≠ .starting) →
            AllBut [.exec, .window, .portA, .portB] s.gw t.gw ∧
              t.gw.port p = { s.gw.port p with words := (t.gw.port p).words }))

/-- A WRITE of mode OFFLINE to an ONLINE port flushes it: queues, slot and the attempt go, FLUSHED counts every pool
frame, their buffers return with those of the replies that waited for the port, and pause and PAUSE request clear, all
in one event (entry 21); a buffer returned marks every hold of the other port for its re-test (R49, R87, entry 4). Mode
ONLINE to an OFFLINE port gives the substate of the link level (R19, R21, R22, R63, R126), and ACTIVE marks a FORWARD
hold of the other port (R87). The other port is not touched otherwise. Each is shown as one word written, where the mode
field of the other port agrees with its state (an invariant, R19). PORT_OFFLINE and PORT_ONLINE are the WRITE that does
it (entry 6). -/
def Obligations.PortModeWrites : Prop :=
  ∀ (s : State) (ex : Execution) (p : PortId) (v : Word) (c : Instr), s.gw.Succeeds ex (.write [v]) →
    s.gw.Settled → ex.ops.tail ≠ [] → s.gw.windowTable = .port →
    s.gw.windowIndex = (if p = .a then 0 else 8) →
    (s.gw.port p.other).words.modeOnline = (s.gw.port p.other).online →
    let q := s.gw.port p
    let o := s.gw.port p.other
    let waiting := s.gw.agentQueue.countP (AgentEntry.waitsOn p)
    (c ∈ [Instr.write, Instr.portOffline p] → q.online = true → v.getLsbD 15 = false →
      s.gw.agentQueue.length ≤ 2 → s.gw.general.noticeEnable = false → s.gw.general.poolPause = false →
      ∃ t, exec c s = .next t ∧ t.pending = s.pending ∧
        AllBut [.portA, .portB, .free, .counters, .agentQueue, .exec, .restart, .window, .monitor] s.gw t.gw ∧
        (t.gw.port p).state = .offline ∧ (t.gw.port p).urgent = [] ∧ (t.gw.port p).normal = [] ∧
        (t.gw.port p).slot = .empty ∧ (t.gw.port p).tx = .tIdle ∧ (t.gw.port p).attempts = 0 ∧
        (t.gw.port p).sending = none ∧ (t.gw.port p).pause = .running ∧ (t.gw.port p).pendingPause = false ∧
        (t.gw.port p).role = .nonClaimant ∧ (t.gw.port p).abort = [] ∧ (t.gw.port p).words.control = v &&& 0xB331 ∧
        t.gw.port p.other = { o with role := (t.gw.port p.other).role } ∧
        (∀ timer retest r, o.role = .holding timer retest → o.record = some r →
          (t.gw.port p.other).role = .holding timer (retest || decide (0 < q.egressCount + waiting))) ∧
        (q.tx = .tArb ∨ q.tx = .tSend ∨ q.tx = .tSlot →
          (t.gw.port p).view = .resync 0 ∧ (t.gw.port p).rx = .rIdle) ∧
        (q.tx = .tIdle ∨ q.tx = .tWaitIdle →
          (t.gw.port p).view = q.view ∧ (t.gw.port p).rx = q.rx) ∧
        t.gw.counters =
          s.gw.counters.set (portCounterIndex p .flushed)
            (s.gw.counters.getD (portCounterIndex p .flushed) 0 + BitVec.ofNat 16 q.egressCount) ∧
        t.gw.free = s.gw.free + q.egressCount + waiting ∧
        t.gw.agentQueue = s.gw.agentQueue.filter fun e => !AgentEntry.waitsOn p e) ∧
    (c ∈ [Instr.write, Instr.portOnline p] → q.state = .offline → v.getLsbD 15 = true → q.QuietWhenOut →
      ∃ t, exec c s = .next t ∧ t.pending = s.pending ∧ AllBut [.portA, .portB, .exec, .window] s.gw t.gw ∧
        (t.gw.port p).state = (if q.linkUp then .active else .linkDown) ∧
        (t.gw.port p).words.control = v &&& 0xB331 ∧
        t.gw.port p.other = { o with role := (t.gw.port p.other).role } ∧
        (∀ timer retest r, o.role = .holding timer retest → o.record = some r →
          (t.gw.port p.other).role =
            .holding timer (retest || (q.linkUp && decide (r.action = some .forward)))) ∧
        (rateCode v = rateCode q.words.control →
          t.gw.port p = { q with words := (t.gw.port p).words, state := (t.gw.port p).state }) ∧
        (rateCode v ≠ rateCode q.words.control → (t.gw.port p).view = .resync 0 ∧ (t.gw.port p).rx = .rIdle ∧
          (t.gw.port p).staging = none ∧ (t.gw.port p).linkUp = q.linkUp))

/-- GROUP SET and GROUP CLEAR give exactly the listed bins of the named port's set their new value, and with a bad
port, count or bin fail BAD_OPERAND with no bin changed (R132); the later operations are SKIPPED and the reply offered in
that same event (entry 9). COUNTERS CLEAR sets every counter of one block to 0 and leaves the others (R168). -/
def Obligations.BinsAndBlocksChange : Prop :=
  ∀ (s : State) (ex : Execution), s.gw.Settled → ex.ops.tail ≠ [] → s.gw.execAccess = .full →
    (∀ port bins (value : Bool) (p : PortId) (bin : Nat),
      s.gw.Runs ex (if value then .groupSet port bins else .groupClear port bins) →
      s.gw.group.length = 8 → bin < 64 →
      let good := 1 ≤ bins.length ∧ bins.length ≤ 16 ∧ port.toNat ≤ 1 ∧ ∀ b ∈ bins, b.toNat < 64
      ∃ t, exec (if value then .groupSet else .groupClear) s = .next t ∧ t.pending = s.pending ∧
        (good → AllBut [.exec, .group] s.gw t.gw ∧ t.gw.exec = some (ex.after .ok [] 0) ∧
          binSet t.gw.group p bin =
            (if (port = if p = .a then 0 else 1) ∧ BitVec.ofNat 8 bin ∈ bins then value
              else binSet s.gw.group p bin)) ∧
        (¬ good → AllBut replyParts s.gw t.gw ∧ t.gw.exec ≠ s.gw.exec ∧ t.gw.group = s.gw.group ∧
          ∀ e, s.gw.QueuesReply e →
            s.gw.RepliesWith t.gw e
              (ex.tag :: 0x00 :: BitVec.ofNat 8 ex.count ::
                (ex.results ++ [0x10, 0x00] ++ skippedBytes ex.ops.tail.length)) false)) ∧
    (∀ (block : Byte) (i : Nat), s.gw.Runs ex (.countersClear block) → block.toNat ≤ 3 →
      s.gw.counters.length = 48 → i < 48 →
      ∃ t, exec .countersClear s = .next t ∧ t.pending = s.pending ∧
        AllBut [.exec, .counters] s.gw t.gw ∧ t.gw.exec = some (ex.after .ok [] 0) ∧
        t.gw.counters.getD i 0 =
          (if block.toNat = (if i < 14 then 0 else if i < 28 then 1 else if i < 32 then 2 else 3) then 0
            else s.gw.counters.getD i 0))

/-- EVENTS CLEAR clears exactly the listed flags and EVENTS MASK replaces both mask words; ALERT follows at once
(R134, R174 to R176). An unmasking that raises ALERT with notices enabled has the agent build one NOTICE of the
unmasked flags into the notice port's URGENT queue, or latches NOTICE_FAILED when the port is not ACTIVE, is full, or
no buffer is free (R100, R144, R177, R178); shown with pool pause off and the notice port's slot full. -/
def Obligations.ClearAndMaskMoveAlert : Prop :=
  ∀ (s : State) (ex : Execution) (w0 w1 : Word), s.gw.Settled → ex.ops.tail ≠ [] → s.gw.AlertOk →
    (s.gw.Succeeds ex (.eventsClear w0 w1) →
      ∃ t, exec .eventsClear s = .next t ∧ t.pending = s.pending ∧ AllBut [.exec, .monitor] s.gw t.gw ∧
        t.gw.exec = some (ex.after .ok [] 2) ∧
        t.gw.monitor.flags0 = s.gw.monitor.flags0 &&& ~~~ w0 ∧
        t.gw.monitor.flags1 = s.gw.monitor.flags1 &&& ~~~ w1 ∧
        t.gw.monitor.history = s.gw.monitor.history ∧
        (t.gw.monitor.alert = true ↔
          t.gw.monitor.flags0 &&& ~~~ s.gw.general.mask0 ≠ 0 ∨
            t.gw.monitor.flags1 &&& ~~~ s.gw.general.mask1 ≠ 0)) ∧
    (s.gw.Succeeds ex (.eventsMask w0 w1) →
      let g := s.gw
      let u0 := g.monitor.flags0 &&& ~~~ w0
      let u1 := g.monitor.flags1 &&& ~~~ w1
      let rises := g.monitor.alert = false ∧ (u0 ≠ 0 ∨ u1 ≠ 0)
      let n := g.general.noticePort
      let fits := 1 ≤ g.free ∧ (g.port n).state = .active ∧ (g.port n).egressCount < 24
      ∃ t, exec .eventsMask s = .next t ∧ t.pending = s.pending ∧
        AllBut (.exec :: .general :: latchParts) s.gw t.gw ∧ t.gw.exec = some (ex.after .ok [] 2) ∧
        t.gw.general = { g.general with mask0 := w0, mask1 := w1 } ∧
        (¬ (rises ∧ g.general.noticeEnable = true) →
          AllBut [.exec, .general, .monitor] s.gw t.gw ∧
            t.gw.monitor = { g.monitor with alert := t.gw.monitor.alert } ∧
            (t.gw.monitor.alert = true ↔ u0 ≠ 0 ∨ u1 ≠ 0)) ∧
        (rises → g.general.noticeEnable = true → ¬ fits →
          AllBut [.exec, .general, .monitor] s.gw t.gw ∧ t.gw.monitor.alert = true ∧ Latched .noticeFailed t.gw) ∧
        (rises → g.general.noticeEnable = true → fits → (g.port n).slot ≠ .empty → g.general.poolPause = false →
          t.gw.monitor.alert = true ∧ t.gw.free + 1 = g.free ∧
            t.gw.port n.other = g.port n.other ∧
            ∃ b, (t.gw.port n).urgent = (g.port n).urgent ++ [⟨b, 0⟩] ∧ b.origin = .notice ∧ b.ingress = n ∧
              b.frame =
                { dest := g.general.noticeTarget
                  src := g.general.own1Value &&& 0x7FFF
                  service := 0
                  kind := 4
                  hop := 7
                  spare := false
                  tag := none
                  payload := wordBytes u0 ++ wordBytes u1 }))

/-- CAPTURE TAKE gives the oldest captured frame: its port, header and tag, and as much of its payload as the space
that remains holds, SHORT when cut; the frame leaves, its buffer returns and CAPTURE_TAKEN counts (R49, R125, R135,
R136, R184). The returned buffer marks every hold for its re-test, whatever it waits for (R87, entry 4). -/
def Obligations.CaptureTakeGivesOldest : Prop :=
  ∀ (s : State) (ex : Execution) (b : PoolBuffer) (rest : List PoolBuffer), s.gw.Succeeds ex .captureTake →
    s.gw.Settled → ex.ops.tail ≠ [] → s.gw.capture = b :: rest → s.gw.general.noticeEnable = false →
    let fixed := (if b.ingress = .a then 0x00 else 0x01) :: (b.frame.header ++ b.frame.tagBytes)
    let room := 96 - (3 + ex.results.length) - (2 + fixed.length) - 2 * ex.ops.tail.length
    ∃ t, exec .captureTake s = .next t ∧ t.pending = s.pending ∧
      AllBut [.portA, .portB, .free, .counters, .capture, .exec, .monitor] s.gw t.gw ∧
      t.gw.capture = rest ∧ t.gw.free = s.gw.free + 1 ∧
      Counted (deviceCounterIndex .captureTaken) s.gw t.gw ∧
      t.gw.monitor.history.capturePending = !rest.isEmpty ∧
      (∀ x timer retest r, (s.gw.port x).role = .holding timer retest → (s.gw.port x).record = some r →
        (t.gw.port x).role = .holding timer true) ∧
      t.gw.exec = some
        (ex.after (if b.frame.payload.length ≤ room then .ok else .short)
          (fixed ++ b.frame.payload.take room) 0)

/-! ## The store -/

/-- The store address and page buffer (R137 to R139, R150, R151, R157): STORE SELECT sets the address and clears the
buffer with another page; STORE READ gives words of the selected page from the store, 0 unless it is WRITTEN, staying
at word 15, SHORT when words are missing, `k` of them in this step (entry 5); STORE FILL places and marks its words from the address, discarding those
beyond word 15; STORE STAGE fills all 16 words from the live tables. -/
def Obligations.StoreBufferOperations : Prop :=
  ∀ (s : State) (ex : Execution), s.gw.Settled → ex.ops.tail ≠ [] →
    let st := s.gw.store
    (∀ page word : Byte, s.gw.Succeeds ex (.storeSelect page word) →
      ∃ t, exec .storeSelect s = .next t ∧ t.pending = s.pending ∧ AllBut [.exec, .store] s.gw t.gw ∧
        t.gw.exec = some (ex.after .ok [] 0) ∧
        t.gw.store =
          { st with
            page := page.toNat
            word := word.toNat
            buffer := if page.toNat = st.page then st.buffer else List.replicate 16 ⟨0, false⟩ }) ∧
    (∀ n k : Nat, s.gw.Succeeds ex (.storeRead n) → 1 ≤ k → ex.taken.length < n → st.word < 16 →
      let total := s.gw.storeTotal ex n
      let m := min k (total - ex.taken.length)
      let page := st.pageAt st.page
      let taken := ex.taken ++ (List.range m).map fun i =>
        if page.state = .written then page.words.getD (st.word + i) 0 else 0
      ∃ t, exec (.storeRead k) s = .next t ∧ t.pending = s.pending ∧ AllBut [.exec, .store] s.gw t.gw ∧
        t.gw.store = { st with word := min 15 (st.word + m) } ∧
        (ex.taken.length + k < total → t.gw.exec = some { ex with taken := taken }) ∧
        (total ≤ ex.taken.length + k →
          t.gw.exec = some (ex.after (if total < n then .short else .ok) (wordsBytes taken) total))) ∧
    (∀ (ws : List Word) (i : Nat), s.gw.Succeeds ex (.storeFill ws) → st.word < 16 → st.buffer.length = 16 → i < 16 →
      let m := min ws.length (16 - st.word)
      ∃ t, exec .storeFill s = .next t ∧ t.pending = s.pending ∧ AllBut [.exec, .store] s.gw t.gw ∧
        t.gw.exec = some (ex.after (if m < ws.length then .short else .ok) [] m) ∧
        t.gw.store = { st with word := min 15 (st.word + m), buffer := t.gw.store.buffer } ∧
        t.gw.store.buffer.getD i ⟨0, false⟩ =
          (if st.word ≤ i ∧ i < st.word + m then ⟨ws.getD (i - st.word) 0, true⟩
            else st.buffer.getD i ⟨0, false⟩)) ∧
    (∀ i : Nat, s.gw.Succeeds ex .storeStage → i < 16 →
      ∃ t, exec .storeStage s = .next t ∧ t.pending = s.pending ∧ AllBut [.exec, .store] s.gw t.gw ∧
        t.gw.exec = some (ex.after .ok [] 16) ∧
        t.gw.store = { st with word := 15, buffer := t.gw.store.buffer } ∧
        t.gw.store.buffer.getD i ⟨0, false⟩ =
          ⟨if st.page = 1 then s.gw.tableWord .port i
            else if st.page = 2 then (if i < 11 then s.gw.general.get i else 0)
            else if st.page = 3 then (if i < 8 then s.gw.group.getD i 0 else 0)
            else if st.page ≤ 7 then (s.gw.meter (4 * (st.page - 4) + i / 4)).get (i % 4)
            else s.gw.route.getD (16 * (st.page - 8) + i) 0, true⟩)

/-- STORE ERASE and STORE WRITE start their operation on the selected page: the store is busy with its record and its
timer at 0, and STORE_BUSY rises (R140, R149, R152, R154); STORE STATUS gives the four words of R141 and changes
nothing. -/
def Obligations.StoreOperationsStart : Prop :=
  ∀ (s : State) (ex : Execution), s.gw.Settled → ex.ops.tail ≠ [] →
    let st := s.gw.store
    (∀ kind : StoreOp, s.gw.Succeeds ex (if kind = .erase then .storeErase else .storeWrite) →
      s.gw.general.noticeEnable = false →
      ∃ t, exec (if kind = .erase then .storeErase else .storeWrite) s = .next t ∧ t.pending = s.pending ∧
        AllBut [.exec, .store, .monitor] s.gw t.gw ∧ t.gw.exec = some (ex.after .ok [] 0) ∧
        t.gw.store =
          { st with
            state := if kind = .erase then .sErasing else .sWriting
            inFlight := some (kind, st.page)
            timer := 0 } ∧
        t.gw.monitor.history.storeBusy = true) ∧
    (s.gw.Succeeds ex .storeStatus → st.page < 64 → st.word < 16 →
      ∃ t w0 w1 w2 w3, exec .storeStatus s = .next t ∧ t.pending = s.pending ∧ AllBut [.exec] s.gw t.gw ∧
        t.gw.exec = some (ex.after .ok (wordsBytes [w0, w1, w2, w3]) 0) ∧
        w0 = (match st.state with
          | .sIdle => 0
          | .sErasing => 1
          | .sWriting => 2) ∧
        (st.last = none → w1 = 0) ∧
        (∀ n < 64, (st.last = some (.erase, n) → w1.toNat = 0x100 + n) ∧
          (st.last = some (.write, n) → w1.toNat = 0x200 + n)) ∧
        w2 = (match (st.pageAt st.page).state with
          | .erased => 0
          | .written => 1
          | .torn => 2) ∧
        w3.toNat = 256 * st.page + st.word)

/-- The completions: an erase at its 20th tick leaves the page ERASED and reading 0, a write at its 12th leaves it
WRITTEN with the marked words of the page buffer, 0 elsewhere, and the buffer cleared; the record is cleared, the last
completion recorded, STORE_DONE latched and STORE_BUSY falls; the stopped timer holds 0 (entry 32). Before that tick,
and with no such operation, the command changes nothing (R149, R153, R155, entry 4). -/
def Obligations.StoreCompletions : Prop :=
  ∀ (s : State) (kind : StoreOp), s.gw.Settled → s.gw.general.noticeEnable = false →
    let st := s.gw.store
    let due := (kind = .erase ∧ st.state = .sErasing ∧ 20 ≤ st.timer) ∨
      (kind = .write ∧ st.state = .sWriting ∧ 12 ≤ st.timer)
    ∃ t, exec (if kind = .erase then .storeEraseComplete else .storeWriteComplete) s = .next t ∧
      t.pending = s.pending ∧ (¬ due → t.gw = s.gw) ∧
      (due →
        AllBut [.store, .monitor] s.gw t.gw ∧ Latched .storeDone t.gw ∧
        t.gw.monitor.history.storeBusy = false ∧
        t.gw.store =
          { st with
            pages := t.gw.store.pages
            inFlight := none
            state := .sIdle
            timer := 0
            last := some (kind, st.page)
            buffer := if kind = .erase then st.buffer else List.replicate 16 ⟨0, false⟩ } ∧
        (∀ n < st.pages.length, n ≠ st.page → t.gw.store.pageAt n = st.pageAt n) ∧
        (st.page < st.pages.length →
          (kind = .erase → t.gw.store.pageAt st.page = ⟨.erased, List.replicate 16 0⟩) ∧
          (kind = .write → t.gw.store.pageAt st.page =
            ⟨.written, st.buffer.map fun w => if w.marked then w.value else 0⟩)))

/-- RESTART makes the restart pending for its own reply: the later operations are SKIPPED, the execution ends with
status RESTARTING, and no other request begins (R142, R143; entries 9, 23). When the reply is discarded at once, its
port not being ONLINE, the restart is due at once. -/
def Obligations.RestartPends : Prop :=
  ∀ (s : State) (ex : Execution) (e : AgentEntry), s.gw.Succeeds ex .restart → s.gw.Settled →
    s.gw.executing = some e →
    ∃ t, exec .restart s = .next t ∧ t.pending = s.pending ∧ t.gw.exec = none ∧
      (s.gw.QueuesReply e →
        AllBut [.portA, .portB, .agentQueue, .exec, .restart] s.gw t.gw ∧ t.gw.restart = .pending ∧
          s.gw.RepliesWith t.gw e
            (ex.tag :: 0x02 :: BitVec.ofNat 8 ex.count ::
              (ex.results ++ [0x00, 0x00] ++ skippedBytes ex.ops.tail.length)) true) ∧
      ((s.gw.port e.buf.ingress).online = false → s.gw.general.noticeEnable = false →
        t.gw.restart = .due ∧ t.gw.free = s.gw.free + 1)

/-! ## Invariants -/

/-- Every buffer is on the free list or in exactly one place, 32 in all, and no place is over its size (R46, R53, R118,
R135); one entry of the agent queue is EXECUTING while a request executes, none otherwise (R119). -/
def Obligations.PoolAndAgentKept : Prop :=
  Kept Gateway.PoolOk ∧ Kept Gateway.AgentOk

/-- ALERT is asserted exactly while at least one latched flag is unmasked, and no flag without a source is ever latched
(R169, R176, R189). -/
def Obligations.AlertKept : Prop :=
  Kept Gateway.AlertOk ∧ Kept Gateway.FlagsOk

/-- Phase and ports stay in step, settings in range, the mode field agrees with the state, and each port's receive side,
transmit side, abort pattern, view, hold and queues agree with one another (R3, R4, R11, R19 to R24, R27, R29, R31, R42,
R44, R54). -/
def Obligations.PortsKept : Prop :=
  Kept Gateway.PortsOk

/-- Where the ports' invariant holds, the level history holds the present level of each condition (R171), and the
store's state, record and sizes stay in step (R148 to R151, R165). -/
def Obligations.LevelsAndStoreKept : Prop :=
  ∀ s s', s.gw.PortsOk → s.gw.LevelsOk → s.gw.StoreOk → step s = .next s' → s'.gw.LevelsOk ∧ s'.gw.StoreOk

/-- Meters keep rate, burst and credit in range (R102); in a running part every valid route entry is well-formed (R71,
R164); the other tables keep their sizes, the window stands inside its table and the pool-low mark in range (R52, R127). -/
def Obligations.TablesKept : Prop :=
  Kept Gateway.MetersOk ∧ Kept Gateway.RouteOk ∧ Kept Gateway.TablesOk

/-- No egress selection stays due after an event: an ACTIVE port with an empty slot has no pending PAUSE request, and
nothing queued when it is RUNNING (R57, R58). It is kept where phase and port states agree, itself an invariant (of
`PortsKept`): a port is STARTING until the part runs. That the selections are taken at the end of each event is entries
10 and 12. -/
def Obligations.SettledKept : Prop :=
  ∀ s s', s.gw.PhaseOk → s.gw.Settled → step s = .next s' → s'.gw.Settled

/-- Every invariant above holds right after reset. -/
def Obligations.InvariantsHoldAtReset : Prop :=
  let g := State.reset.gw
  g.PoolOk ∧ g.AgentOk ∧ g.AlertOk ∧ g.FlagsOk ∧ g.PortsOk ∧ g.LevelsOk ∧ g.StoreOk ∧ g.MetersOk ∧ g.RouteOk ∧
    g.TablesOk ∧ g.Settled

/-! ## The wire -/

/-- What a port sends is what a receiver reads: the line bits of an attempt never hold six equal bits in a row and give
back the start bit, the bytes and the check when the stuff bits are dropped; and the bytes of every frame that fits give
back that frame, every field of it (R4 to R9, R180). -/
def Obligations.SentFrameIsReadBack : Prop :=
  (∀ (f : Frame), f.fits = true → Frame.ofBytes f.bytes = some f) ∧
    (∀ (bytes : List Byte),
      destuff (Attempt.of bytes).lineBits = some (frameBits bytes (crc bytes)) ∧
        ∀ (b : Bool) (before after : List Bool),
          (Attempt.of bytes).lineBits ≠ before ++ List.replicate 6 b ++ after)
end

