-- ==== Sys2Proof/Laws/State.lean ====
section
/-! SUPPORT. What each update of the state leaves of each field: one lemma a field, so that no proof unfolds an
update. -/

namespace Sys2Proof.Machine

/-! ## Ports -/

@[simp] theorem Gateway.port_a (g : Gateway) : g.port .a = g.portA := rfl

@[simp] theorem Gateway.port_b (g : Gateway) : g.port .b = g.portB := rfl

@[simp] theorem PortId.other_a : PortId.a.other = .b := rfl

@[simp] theorem PortId.other_b : PortId.b.other = .a := rfl

@[simp] theorem PortId.other_other (p : PortId) : p.other.other = p := by cases p <;> rfl

@[simp] theorem PortId.other_ne (p : PortId) : p.other ≠ p := by cases p <;> decide

@[simp] theorem PortId.ne_other (p : PortId) : p ≠ p.other := by cases p <;> decide

/-- A port is the given one or the other. -/
theorem PortId.eq_or_other (p x : PortId) : x = p ∨ x = p.other := by
  cases p <;> cases x <;> simp

@[simp] theorem Gateway.setPort_a (g : Gateway) (q : Port) : g.setPort .a q = { g with portA := q } := rfl

@[simp] theorem Gateway.setPort_b (g : Gateway) (q : Port) : g.setPort .b q = { g with portB := q } := rfl

@[simp] theorem Gateway.port_setPort_self (g : Gateway) (p : PortId) (q : Port) : (g.setPort p q).port p = q := by
  cases p <;> rfl

@[simp] theorem Gateway.port_setPort_other (g : Gateway) (p : PortId) (q : Port) :
    (g.setPort p q).port p.other = g.port p.other := by
  cases p <;> rfl

@[simp] theorem Gateway.port_other_setPort (g : Gateway) (p : PortId) (q : Port) :
    (g.setPort p.other q).port p = g.port p := by
  cases p <;> rfl

@[simp] theorem Gateway.setPort_port (g : Gateway) (p : PortId) : g.setPort p (g.port p) = g := by
  cases p <;> rfl

@[simp] theorem Gateway.setPort_setPort (g : Gateway) (p : PortId) (q r : Port) :
    (g.setPort p q).setPort p r = g.setPort p r := by
  cases p <;> rfl

@[simp] theorem Gateway.port_modPort_self (g : Gateway) (p : PortId) (f : Port → Port) :
    (g.modPort p f).port p = f (g.port p) := by
  cases p <;> rfl

@[simp] theorem Gateway.port_modPort_other (g : Gateway) (p : PortId) (f : Port → Port) :
    (g.modPort p f).port p.other = g.port p.other := by
  cases p <;> rfl

@[simp] theorem Gateway.port_other_modPort (g : Gateway) (p : PortId) (f : Port → Port) :
    (g.modPort p.other f).port p = g.port p := by
  cases p <;> rfl

/-! ## Fields after setPort -/

@[simp] theorem Gateway.phase_setPort (g : Gateway) (p : PortId) (q : Port) : (g.setPort p q).phase = g.phase := by cases p <;> rfl

@[simp] theorem Gateway.loadFault_setPort (g : Gateway) (p : PortId) (q : Port) : (g.setPort p q).loadFault = g.loadFault := by cases p <;> rfl

@[simp] theorem Gateway.startCause_setPort (g : Gateway) (p : PortId) (q : Port) : (g.setPort p q).startCause = g.startCause := by cases p <;> rfl

@[simp] theorem Gateway.free_setPort (g : Gateway) (p : PortId) (q : Port) : (g.setPort p q).free = g.free := by cases p <;> rfl

@[simp] theorem Gateway.general_setPort (g : Gateway) (p : PortId) (q : Port) : (g.setPort p q).general = g.general := by cases p <;> rfl

@[simp] theorem Gateway.group_setPort (g : Gateway) (p : PortId) (q : Port) : (g.setPort p q).group = g.group := by cases p <;> rfl

@[simp] theorem Gateway.meters_setPort (g : Gateway) (p : PortId) (q : Port) : (g.setPort p q).meters = g.meters := by cases p <;> rfl

@[simp] theorem Gateway.route_setPort (g : Gateway) (p : PortId) (q : Port) : (g.setPort p q).route = g.route := by cases p <;> rfl

@[simp] theorem Gateway.counters_setPort (g : Gateway) (p : PortId) (q : Port) : (g.setPort p q).counters = g.counters := by cases p <;> rfl

@[simp] theorem Gateway.agentQueue_setPort (g : Gateway) (p : PortId) (q : Port) : (g.setPort p q).agentQueue = g.agentQueue := by cases p <;> rfl

@[simp] theorem Gateway.exec_setPort (g : Gateway) (p : PortId) (q : Port) : (g.setPort p q).exec = g.exec := by cases p <;> rfl

@[simp] theorem Gateway.restart_setPort (g : Gateway) (p : PortId) (q : Port) : (g.setPort p q).restart = g.restart := by cases p <;> rfl

@[simp] theorem Gateway.windowTable_setPort (g : Gateway) (p : PortId) (q : Port) : (g.setPort p q).windowTable = g.windowTable := by cases p <;> rfl

@[simp] theorem Gateway.windowIndex_setPort (g : Gateway) (p : PortId) (q : Port) : (g.setPort p q).windowIndex = g.windowIndex := by cases p <;> rfl

@[simp] theorem Gateway.capture_setPort (g : Gateway) (p : PortId) (q : Port) : (g.setPort p q).capture = g.capture := by cases p <;> rfl

@[simp] theorem Gateway.store_setPort (g : Gateway) (p : PortId) (q : Port) : (g.setPort p q).store = g.store := by cases p <;> rfl

@[simp] theorem Gateway.monitor_setPort (g : Gateway) (p : PortId) (q : Port) : (g.setPort p q).monitor = g.monitor := by cases p <;> rfl

/-! ## Fields after modPort -/

@[simp] theorem Gateway.phase_modPort (g : Gateway) (p : PortId) (f : Port → Port) : (g.modPort p f).phase = g.phase := by cases p <;> rfl

@[simp] theorem Gateway.loadFault_modPort (g : Gateway) (p : PortId) (f : Port → Port) : (g.modPort p f).loadFault = g.loadFault := by cases p <;> rfl

@[simp] theorem Gateway.startCause_modPort (g : Gateway) (p : PortId) (f : Port → Port) : (g.modPort p f).startCause = g.startCause := by cases p <;> rfl

@[simp] theorem Gateway.free_modPort (g : Gateway) (p : PortId) (f : Port → Port) : (g.modPort p f).free = g.free := by cases p <;> rfl

@[simp] theorem Gateway.general_modPort (g : Gateway) (p : PortId) (f : Port → Port) : (g.modPort p f).general = g.general := by cases p <;> rfl

@[simp] theorem Gateway.group_modPort (g : Gateway) (p : PortId) (f : Port → Port) : (g.modPort p f).group = g.group := by cases p <;> rfl

@[simp] theorem Gateway.meters_modPort (g : Gateway) (p : PortId) (f : Port → Port) : (g.modPort p f).meters = g.meters := by cases p <;> rfl

@[simp] theorem Gateway.route_modPort (g : Gateway) (p : PortId) (f : Port → Port) : (g.modPort p f).route = g.route := by cases p <;> rfl

@[simp] theorem Gateway.counters_modPort (g : Gateway) (p : PortId) (f : Port → Port) : (g.modPort p f).counters = g.counters := by cases p <;> rfl

@[simp] theorem Gateway.agentQueue_modPort (g : Gateway) (p : PortId) (f : Port → Port) : (g.modPort p f).agentQueue = g.agentQueue := by cases p <;> rfl

@[simp] theorem Gateway.exec_modPort (g : Gateway) (p : PortId) (f : Port → Port) : (g.modPort p f).exec = g.exec := by cases p <;> rfl

@[simp] theorem Gateway.restart_modPort (g : Gateway) (p : PortId) (f : Port → Port) : (g.modPort p f).restart = g.restart := by cases p <;> rfl

@[simp] theorem Gateway.windowTable_modPort (g : Gateway) (p : PortId) (f : Port → Port) : (g.modPort p f).windowTable = g.windowTable := by cases p <;> rfl

@[simp] theorem Gateway.windowIndex_modPort (g : Gateway) (p : PortId) (f : Port → Port) : (g.modPort p f).windowIndex = g.windowIndex := by cases p <;> rfl

@[simp] theorem Gateway.capture_modPort (g : Gateway) (p : PortId) (f : Port → Port) : (g.modPort p f).capture = g.capture := by cases p <;> rfl

@[simp] theorem Gateway.store_modPort (g : Gateway) (p : PortId) (f : Port → Port) : (g.modPort p f).store = g.store := by cases p <;> rfl

@[simp] theorem Gateway.monitor_modPort (g : Gateway) (p : PortId) (f : Port → Port) : (g.modPort p f).monitor = g.monitor := by cases p <;> rfl

/-! ## Fields after bump -/

@[simp] theorem Gateway.portA_bump (g : Gateway) (i n : Nat) : (g.bump i n).portA = g.portA := rfl

@[simp] theorem Gateway.portB_bump (g : Gateway) (i n : Nat) : (g.bump i n).portB = g.portB := rfl

@[simp] theorem Gateway.phase_bump (g : Gateway) (i n : Nat) : (g.bump i n).phase = g.phase := rfl

@[simp] theorem Gateway.loadFault_bump (g : Gateway) (i n : Nat) : (g.bump i n).loadFault = g.loadFault := rfl

@[simp] theorem Gateway.startCause_bump (g : Gateway) (i n : Nat) : (g.bump i n).startCause = g.startCause := rfl

@[simp] theorem Gateway.free_bump (g : Gateway) (i n : Nat) : (g.bump i n).free = g.free := rfl

@[simp] theorem Gateway.general_bump (g : Gateway) (i n : Nat) : (g.bump i n).general = g.general := rfl

@[simp] theorem Gateway.group_bump (g : Gateway) (i n : Nat) : (g.bump i n).group = g.group := rfl

@[simp] theorem Gateway.meters_bump (g : Gateway) (i n : Nat) : (g.bump i n).meters = g.meters := rfl

@[simp] theorem Gateway.route_bump (g : Gateway) (i n : Nat) : (g.bump i n).route = g.route := rfl

@[simp] theorem Gateway.counters_bump (g : Gateway) (i n : Nat) : (g.bump i n).counters = g.counters.set i (g.counters.getD i 0 + BitVec.ofNat 16 n) := rfl

@[simp] theorem Gateway.agentQueue_bump (g : Gateway) (i n : Nat) : (g.bump i n).agentQueue = g.agentQueue := rfl

@[simp] theorem Gateway.exec_bump (g : Gateway) (i n : Nat) : (g.bump i n).exec = g.exec := rfl

@[simp] theorem Gateway.restart_bump (g : Gateway) (i n : Nat) : (g.bump i n).restart = g.restart := rfl

@[simp] theorem Gateway.windowTable_bump (g : Gateway) (i n : Nat) : (g.bump i n).windowTable = g.windowTable := rfl

@[simp] theorem Gateway.windowIndex_bump (g : Gateway) (i n : Nat) : (g.bump i n).windowIndex = g.windowIndex := rfl

@[simp] theorem Gateway.capture_bump (g : Gateway) (i n : Nat) : (g.bump i n).capture = g.capture := rfl

@[simp] theorem Gateway.store_bump (g : Gateway) (i n : Nat) : (g.bump i n).store = g.store := rfl

@[simp] theorem Gateway.monitor_bump (g : Gateway) (i n : Nat) : (g.bump i n).monitor = g.monitor := rfl

/-! ## Fields after count -/

@[simp] theorem Gateway.portA_count (g : Gateway) (p : PortId) (c : PortCounter) : (g.count p c).portA = g.portA := rfl

@[simp] theorem Gateway.portB_count (g : Gateway) (p : PortId) (c : PortCounter) : (g.count p c).portB = g.portB := rfl

@[simp] theorem Gateway.phase_count (g : Gateway) (p : PortId) (c : PortCounter) : (g.count p c).phase = g.phase := rfl

@[simp] theorem Gateway.loadFault_count (g : Gateway) (p : PortId) (c : PortCounter) : (g.count p c).loadFault = g.loadFault := rfl

@[simp] theorem Gateway.startCause_count (g : Gateway) (p : PortId) (c : PortCounter) : (g.count p c).startCause = g.startCause := rfl

@[simp] theorem Gateway.free_count (g : Gateway) (p : PortId) (c : PortCounter) : (g.count p c).free = g.free := rfl

@[simp] theorem Gateway.general_count (g : Gateway) (p : PortId) (c : PortCounter) : (g.count p c).general = g.general := rfl

@[simp] theorem Gateway.group_count (g : Gateway) (p : PortId) (c : PortCounter) : (g.count p c).group = g.group := rfl

@[simp] theorem Gateway.meters_count (g : Gateway) (p : PortId) (c : PortCounter) : (g.count p c).meters = g.meters := rfl

@[simp] theorem Gateway.route_count (g : Gateway) (p : PortId) (c : PortCounter) : (g.count p c).route = g.route := rfl

@[simp] theorem Gateway.counters_count (g : Gateway) (p : PortId) (c : PortCounter) : (g.count p c).counters = (g.bump (portCounterIndex p c) 1).counters := rfl

@[simp] theorem Gateway.agentQueue_count (g : Gateway) (p : PortId) (c : PortCounter) : (g.count p c).agentQueue = g.agentQueue := rfl

@[simp] theorem Gateway.exec_count (g : Gateway) (p : PortId) (c : PortCounter) : (g.count p c).exec = g.exec := rfl

@[simp] theorem Gateway.restart_count (g : Gateway) (p : PortId) (c : PortCounter) : (g.count p c).restart = g.restart := rfl

@[simp] theorem Gateway.windowTable_count (g : Gateway) (p : PortId) (c : PortCounter) : (g.count p c).windowTable = g.windowTable := rfl

@[simp] theorem Gateway.windowIndex_count (g : Gateway) (p : PortId) (c : PortCounter) : (g.count p c).windowIndex = g.windowIndex := rfl

@[simp] theorem Gateway.capture_count (g : Gateway) (p : PortId) (c : PortCounter) : (g.count p c).capture = g.capture := rfl

@[simp] theorem Gateway.store_count (g : Gateway) (p : PortId) (c : PortCounter) : (g.count p c).store = g.store := rfl

@[simp] theorem Gateway.monitor_count (g : Gateway) (p : PortId) (c : PortCounter) : (g.count p c).monitor = g.monitor := rfl

/-! ## Fields after countDevice -/

@[simp] theorem Gateway.portA_countDevice (g : Gateway) (c : DeviceCounter) : (g.countDevice c).portA = g.portA := rfl

@[simp] theorem Gateway.portB_countDevice (g : Gateway) (c : DeviceCounter) : (g.countDevice c).portB = g.portB := rfl

@[simp] theorem Gateway.phase_countDevice (g : Gateway) (c : DeviceCounter) : (g.countDevice c).phase = g.phase := rfl

@[simp] theorem Gateway.loadFault_countDevice (g : Gateway) (c : DeviceCounter) : (g.countDevice c).loadFault = g.loadFault := rfl

@[simp] theorem Gateway.startCause_countDevice (g : Gateway) (c : DeviceCounter) : (g.countDevice c).startCause = g.startCause := rfl

@[simp] theorem Gateway.free_countDevice (g : Gateway) (c : DeviceCounter) : (g.countDevice c).free = g.free := rfl

@[simp] theorem Gateway.general_countDevice (g : Gateway) (c : DeviceCounter) : (g.countDevice c).general = g.general := rfl

@[simp] theorem Gateway.group_countDevice (g : Gateway) (c : DeviceCounter) : (g.countDevice c).group = g.group := rfl

@[simp] theorem Gateway.meters_countDevice (g : Gateway) (c : DeviceCounter) : (g.countDevice c).meters = g.meters := rfl

@[simp] theorem Gateway.route_countDevice (g : Gateway) (c : DeviceCounter) : (g.countDevice c).route = g.route := rfl

@[simp] theorem Gateway.counters_countDevice (g : Gateway) (c : DeviceCounter) : (g.countDevice c).counters = (g.bump (deviceCounterIndex c) 1).counters := rfl

@[simp] theorem Gateway.agentQueue_countDevice (g : Gateway) (c : DeviceCounter) : (g.countDevice c).agentQueue = g.agentQueue := rfl

@[simp] theorem Gateway.exec_countDevice (g : Gateway) (c : DeviceCounter) : (g.countDevice c).exec = g.exec := rfl

@[simp] theorem Gateway.restart_countDevice (g : Gateway) (c : DeviceCounter) : (g.countDevice c).restart = g.restart := rfl

@[simp] theorem Gateway.windowTable_countDevice (g : Gateway) (c : DeviceCounter) : (g.countDevice c).windowTable = g.windowTable := rfl

@[simp] theorem Gateway.windowIndex_countDevice (g : Gateway) (c : DeviceCounter) : (g.countDevice c).windowIndex = g.windowIndex := rfl

@[simp] theorem Gateway.capture_countDevice (g : Gateway) (c : DeviceCounter) : (g.countDevice c).capture = g.capture := rfl

@[simp] theorem Gateway.store_countDevice (g : Gateway) (c : DeviceCounter) : (g.countDevice c).store = g.store := rfl

@[simp] theorem Gateway.monitor_countDevice (g : Gateway) (c : DeviceCounter) : (g.countDevice c).monitor = g.monitor := rfl

/-! ## Fields after setFlag -/

@[simp] theorem Gateway.portA_setFlag (g : Gateway) (src : Source) : (g.setFlag src).portA = g.portA := rfl

@[simp] theorem Gateway.portB_setFlag (g : Gateway) (src : Source) : (g.setFlag src).portB = g.portB := rfl

@[simp] theorem Gateway.phase_setFlag (g : Gateway) (src : Source) : (g.setFlag src).phase = g.phase := rfl

@[simp] theorem Gateway.loadFault_setFlag (g : Gateway) (src : Source) : (g.setFlag src).loadFault = g.loadFault := rfl

@[simp] theorem Gateway.startCause_setFlag (g : Gateway) (src : Source) : (g.setFlag src).startCause = g.startCause := rfl

@[simp] theorem Gateway.free_setFlag (g : Gateway) (src : Source) : (g.setFlag src).free = g.free := rfl

@[simp] theorem Gateway.general_setFlag (g : Gateway) (src : Source) : (g.setFlag src).general = g.general := rfl

@[simp] theorem Gateway.group_setFlag (g : Gateway) (src : Source) : (g.setFlag src).group = g.group := rfl

@[simp] theorem Gateway.meters_setFlag (g : Gateway) (src : Source) : (g.setFlag src).meters = g.meters := rfl

@[simp] theorem Gateway.route_setFlag (g : Gateway) (src : Source) : (g.setFlag src).route = g.route := rfl

@[simp] theorem Gateway.counters_setFlag (g : Gateway) (src : Source) : (g.setFlag src).counters = g.counters := rfl

@[simp] theorem Gateway.agentQueue_setFlag (g : Gateway) (src : Source) : (g.setFlag src).agentQueue = g.agentQueue := rfl

@[simp] theorem Gateway.exec_setFlag (g : Gateway) (src : Source) : (g.setFlag src).exec = g.exec := rfl

@[simp] theorem Gateway.restart_setFlag (g : Gateway) (src : Source) : (g.setFlag src).restart = g.restart := rfl

@[simp] theorem Gateway.windowTable_setFlag (g : Gateway) (src : Source) : (g.setFlag src).windowTable = g.windowTable := rfl

@[simp] theorem Gateway.windowIndex_setFlag (g : Gateway) (src : Source) : (g.setFlag src).windowIndex = g.windowIndex := rfl

@[simp] theorem Gateway.capture_setFlag (g : Gateway) (src : Source) : (g.setFlag src).capture = g.capture := rfl

@[simp] theorem Gateway.store_setFlag (g : Gateway) (src : Source) : (g.setFlag src).store = g.store := rfl

@[simp] theorem Gateway.monitor_setFlag (g : Gateway) (src : Source) : (g.setFlag src).monitor = g.monitor.setFlag src := rfl

/-! ## Fields after handLevel -/

@[simp] theorem Gateway.portA_handLevel (g : Gateway) (c : Level) (v : Bool) : (g.handLevel c v).portA = g.portA := rfl

@[simp] theorem Gateway.portB_handLevel (g : Gateway) (c : Level) (v : Bool) : (g.handLevel c v).portB = g.portB := rfl

@[simp] theorem Gateway.phase_handLevel (g : Gateway) (c : Level) (v : Bool) : (g.handLevel c v).phase = g.phase := rfl

@[simp] theorem Gateway.loadFault_handLevel (g : Gateway) (c : Level) (v : Bool) : (g.handLevel c v).loadFault = g.loadFault := rfl

@[simp] theorem Gateway.startCause_handLevel (g : Gateway) (c : Level) (v : Bool) : (g.handLevel c v).startCause = g.startCause := rfl

@[simp] theorem Gateway.free_handLevel (g : Gateway) (c : Level) (v : Bool) : (g.handLevel c v).free = g.free := rfl

@[simp] theorem Gateway.general_handLevel (g : Gateway) (c : Level) (v : Bool) : (g.handLevel c v).general = g.general := rfl

@[simp] theorem Gateway.group_handLevel (g : Gateway) (c : Level) (v : Bool) : (g.handLevel c v).group = g.group := rfl

@[simp] theorem Gateway.meters_handLevel (g : Gateway) (c : Level) (v : Bool) : (g.handLevel c v).meters = g.meters := rfl

@[simp] theorem Gateway.route_handLevel (g : Gateway) (c : Level) (v : Bool) : (g.handLevel c v).route = g.route := rfl

@[simp] theorem Gateway.counters_handLevel (g : Gateway) (c : Level) (v : Bool) : (g.handLevel c v).counters = g.counters := rfl

@[simp] theorem Gateway.agentQueue_handLevel (g : Gateway) (c : Level) (v : Bool) : (g.handLevel c v).agentQueue = g.agentQueue := rfl

@[simp] theorem Gateway.exec_handLevel (g : Gateway) (c : Level) (v : Bool) : (g.handLevel c v).exec = g.exec := rfl

@[simp] theorem Gateway.restart_handLevel (g : Gateway) (c : Level) (v : Bool) : (g.handLevel c v).restart = g.restart := rfl

@[simp] theorem Gateway.windowTable_handLevel (g : Gateway) (c : Level) (v : Bool) : (g.handLevel c v).windowTable = g.windowTable := rfl

@[simp] theorem Gateway.windowIndex_handLevel (g : Gateway) (c : Level) (v : Bool) : (g.handLevel c v).windowIndex = g.windowIndex := rfl

@[simp] theorem Gateway.capture_handLevel (g : Gateway) (c : Level) (v : Bool) : (g.handLevel c v).capture = g.capture := rfl

@[simp] theorem Gateway.store_handLevel (g : Gateway) (c : Level) (v : Bool) : (g.handLevel c v).store = g.store := rfl

@[simp] theorem Gateway.monitor_handLevel (g : Gateway) (c : Level) (v : Bool) : (g.handLevel c v).monitor = g.monitor.handLevel g.general.edgeSelect c v := rfl

/-! ## Fields after moveWindow -/

@[simp] theorem Gateway.portA_moveWindow (g : Gateway) (n : Nat) : (g.moveWindow n).portA = g.portA := rfl

@[simp] theorem Gateway.portB_moveWindow (g : Gateway) (n : Nat) : (g.moveWindow n).portB = g.portB := rfl

@[simp] theorem Gateway.phase_moveWindow (g : Gateway) (n : Nat) : (g.moveWindow n).phase = g.phase := rfl

@[simp] theorem Gateway.loadFault_moveWindow (g : Gateway) (n : Nat) : (g.moveWindow n).loadFault = g.loadFault := rfl

@[simp] theorem Gateway.startCause_moveWindow (g : Gateway) (n : Nat) : (g.moveWindow n).startCause = g.startCause := rfl

@[simp] theorem Gateway.free_moveWindow (g : Gateway) (n : Nat) : (g.moveWindow n).free = g.free := rfl

@[simp] theorem Gateway.general_moveWindow (g : Gateway) (n : Nat) : (g.moveWindow n).general = g.general := rfl

@[simp] theorem Gateway.group_moveWindow (g : Gateway) (n : Nat) : (g.moveWindow n).group = g.group := rfl

@[simp] theorem Gateway.meters_moveWindow (g : Gateway) (n : Nat) : (g.moveWindow n).meters = g.meters := rfl

@[simp] theorem Gateway.route_moveWindow (g : Gateway) (n : Nat) : (g.moveWindow n).route = g.route := rfl

@[simp] theorem Gateway.counters_moveWindow (g : Gateway) (n : Nat) : (g.moveWindow n).counters = g.counters := rfl

@[simp] theorem Gateway.agentQueue_moveWindow (g : Gateway) (n : Nat) : (g.moveWindow n).agentQueue = g.agentQueue := rfl

@[simp] theorem Gateway.exec_moveWindow (g : Gateway) (n : Nat) : (g.moveWindow n).exec = g.exec := rfl

@[simp] theorem Gateway.restart_moveWindow (g : Gateway) (n : Nat) : (g.moveWindow n).restart = g.restart := rfl

@[simp] theorem Gateway.windowTable_moveWindow (g : Gateway) (n : Nat) : (g.moveWindow n).windowTable = g.windowTable := rfl

@[simp] theorem Gateway.windowIndex_moveWindow (g : Gateway) (n : Nat) : (g.moveWindow n).windowIndex = (g.windowIndex + n) % g.windowTable.size := rfl

@[simp] theorem Gateway.capture_moveWindow (g : Gateway) (n : Nat) : (g.moveWindow n).capture = g.capture := rfl

@[simp] theorem Gateway.store_moveWindow (g : Gateway) (n : Nat) : (g.moveWindow n).store = g.store := rfl

@[simp] theorem Gateway.monitor_moveWindow (g : Gateway) (n : Nat) : (g.moveWindow n).monitor = g.monitor := rfl

/-! ## Fields after debit -/

@[simp] theorem Gateway.portA_debit (g : Gateway) (k n : Nat) : (g.debit k n).portA = g.portA := rfl

@[simp] theorem Gateway.portB_debit (g : Gateway) (k n : Nat) : (g.debit k n).portB = g.portB := rfl

@[simp] theorem Gateway.phase_debit (g : Gateway) (k n : Nat) : (g.debit k n).phase = g.phase := rfl

@[simp] theorem Gateway.loadFault_debit (g : Gateway) (k n : Nat) : (g.debit k n).loadFault = g.loadFault := rfl

@[simp] theorem Gateway.startCause_debit (g : Gateway) (k n : Nat) : (g.debit k n).startCause = g.startCause := rfl

@[simp] theorem Gateway.free_debit (g : Gateway) (k n : Nat) : (g.debit k n).free = g.free := rfl

@[simp] theorem Gateway.general_debit (g : Gateway) (k n : Nat) : (g.debit k n).general = g.general := rfl

@[simp] theorem Gateway.group_debit (g : Gateway) (k n : Nat) : (g.debit k n).group = g.group := rfl

@[simp] theorem Gateway.meters_debit (g : Gateway) (k n : Nat) : (g.debit k n).meters = g.meters.set k { g.meter k with credit := (g.meter k).credit - BitVec.ofNat 16 n } := rfl

@[simp] theorem Gateway.route_debit (g : Gateway) (k n : Nat) : (g.debit k n).route = g.route := rfl

@[simp] theorem Gateway.counters_debit (g : Gateway) (k n : Nat) : (g.debit k n).counters = g.counters := rfl

@[simp] theorem Gateway.agentQueue_debit (g : Gateway) (k n : Nat) : (g.debit k n).agentQueue = g.agentQueue := rfl

@[simp] theorem Gateway.exec_debit (g : Gateway) (k n : Nat) : (g.debit k n).exec = g.exec := rfl

@[simp] theorem Gateway.restart_debit (g : Gateway) (k n : Nat) : (g.debit k n).restart = g.restart := rfl

@[simp] theorem Gateway.windowTable_debit (g : Gateway) (k n : Nat) : (g.debit k n).windowTable = g.windowTable := rfl

@[simp] theorem Gateway.windowIndex_debit (g : Gateway) (k n : Nat) : (g.debit k n).windowIndex = g.windowIndex := rfl

@[simp] theorem Gateway.capture_debit (g : Gateway) (k n : Nat) : (g.debit k n).capture = g.capture := rfl

@[simp] theorem Gateway.store_debit (g : Gateway) (k n : Nat) : (g.debit k n).store = g.store := rfl

@[simp] theorem Gateway.monitor_debit (g : Gateway) (k n : Nat) : (g.debit k n).monitor = g.monitor := rfl

@[simp] theorem Gateway.port_bump (g : Gateway) (i n : Nat) (p : PortId) : (g.bump i n).port p = g.port p := by
  cases p <;> rfl

@[simp] theorem Gateway.port_count (g : Gateway) (x : PortId) (c : PortCounter) (p : PortId) : (g.count x c).port p = g.port p := by
  cases p <;> rfl

@[simp] theorem Gateway.port_countDevice (g : Gateway) (c : DeviceCounter) (p : PortId) : (g.countDevice c).port p = g.port p := by
  cases p <;> rfl

@[simp] theorem Gateway.port_setFlag (g : Gateway) (src : Source) (p : PortId) : (g.setFlag src).port p = g.port p := by
  cases p <;> rfl

@[simp] theorem Gateway.port_handLevel (g : Gateway) (c : Level) (v : Bool) (p : PortId) : (g.handLevel c v).port p = g.port p := by
  cases p <;> rfl

end Sys2Proof.Machine
end

