-- ==== Sys2Proof/Laws/Ops.lean ====
section
/-! SUPPORT. What each shared operation can do, said once: which parts it changes, and what it is where no notice
and no selection follows. -/

namespace Sys2Proof.Machine

/-! ## Commands answer a next state and leave the queue -/

theorem onGateway_eq (f : Gateway → Gateway) (s : State) : onGateway f s = .next ⟨s.pending, f s.gw⟩ := rfl

/-- Every command answers a next state with the queue as it was. -/
theorem exec_answers_next (c : Instr) (s : State) : ∃ g, exec c s = .next ⟨s.pending, g⟩ := by
  cases c <;> exact ⟨_, rfl⟩

/-! ## What is left unchanged -/

theorem Part.Same.refl (g : Gateway) (x : Part) : Part.Same g g x := by
  cases x <;> simp [Part.Same]

theorem Part.Same.trans {g h t : Gateway} {x : Part} (a : Part.Same g h x) (b : Part.Same h t x) :
    Part.Same g t x := by
  cases x <;> simp_all [Part.Same]

theorem AllBut.refl (l : List Part) (g : Gateway) : AllBut l g g := fun x _ => Part.Same.refl g x

theorem AllBut.trans {l : List Part} {g h t : Gateway} (a : AllBut l g h) (b : AllBut l h t) : AllBut l g t :=
  fun x hx => (a x hx).trans (b x hx)

theorem AllBut.mono {l m : List Part} {g t : Gateway} (a : AllBut l g t) (h : ∀ x ∈ l, x ∈ m) : AllBut m g t :=
  fun x hx => a x fun hl => hx (h x hl)

theorem modPort_allBut (g : Gateway) (p : PortId) (f : Port → Port) : AllBut [portPart p] g (g.modPort p f) := by
  intro x hx
  cases p <;> cases x <;> simp_all [Part.Same, portPart, Gateway.modPort]

theorem setPort_allBut (g : Gateway) (p : PortId) (q : Port) : AllBut [portPart p] g (g.setPort p q) := by
  intro x hx
  cases p <;> cases x <;> simp_all [Part.Same, portPart]

theorem bump_allBut (g : Gateway) (i n : Nat) : AllBut [.counters] g (g.bump i n) := by
  intro x hx
  cases x <;> simp_all [Part.Same]

theorem count_counted (g : Gateway) (p : PortId) (c : PortCounter) :
    Counted (portCounterIndex p c) g (g.count p c) := rfl

theorem countDevice_counted (g : Gateway) (c : DeviceCounter) :
    Counted (deviceCounterIndex c) g (g.countDevice c) := rfl

theorem setFlag_allBut (g : Gateway) (src : Source) : AllBut [.monitor] g (g.setFlag src) := by
  intro x hx
  cases x <;> simp_all [Part.Same]

theorem handLevel_allBut (g : Gateway) (c : Level) (v : Bool) : AllBut [.monitor] g (g.handLevel c v) := by
  intro x hx
  cases x <;> simp_all [Part.Same]

/-! ## Prompts change only whether a hold re-tests -/

theorem promptIf_eq (c : DecisionRecord → Bool) (q : Port) :
    Port.promptIf c q = { q with role := (Port.promptIf c q).role } := by
  unfold Port.promptIf
  split <;> first | rfl | (split <;> rfl)

theorem promptIf_isHolding (c : DecisionRecord → Bool) (q : Port) : (Port.promptIf c q).isHolding = q.isHolding := by
  unfold Port.promptIf
  split
  · split <;> simp_all [Port.isHolding]
  · rfl

theorem promptIf_record (c : DecisionRecord → Bool) (q : Port) : (Port.promptIf c q).record = q.record := by
  rw [promptIf_eq]

theorem promptIf_slot (c : DecisionRecord → Bool) (q : Port) : (Port.promptIf c q).slot = q.slot := by
  rw [promptIf_eq]

theorem promptIf_state (c : DecisionRecord → Bool) (q : Port) : (Port.promptIf c q).state = q.state := by
  rw [promptIf_eq]

theorem promptIf_urgent (c : DecisionRecord → Bool) (q : Port) : (Port.promptIf c q).urgent = q.urgent := by
  rw [promptIf_eq]

theorem promptIf_normal (c : DecisionRecord → Bool) (q : Port) : (Port.promptIf c q).normal = q.normal := by
  rw [promptIf_eq]

theorem modBoth_allBut (g : Gateway) (f h : Port → Port) :
    AllBut [.portA, .portB] g ((g.modPort .a f).modPort .b h) :=
  ((modPort_allBut g .a f).mono (by simp [portPart])).trans ((modPort_allBut _ .b h).mono (by simp [portPart]))

theorem promptReturn_allBut (g : Gateway) : AllBut [.portA, .portB] g g.promptReturn := modBoth_allBut g _ _

theorem promptAgent_allBut (g : Gateway) : AllBut [.portA, .portB] g g.promptAgent := modBoth_allBut g _ _

theorem promptCapture_allBut (g : Gateway) : AllBut [.portA, .portB] g g.promptCapture := modBoth_allBut g _ _

theorem promptMeter_allBut (g : Gateway) (k : Nat) : AllBut [.portA, .portB] g (g.promptMeter k) :=
  modBoth_allBut g _ _

theorem promptActive_allBut (g : Gateway) (p : PortId) : AllBut [portPart p.other] g (g.promptActive p) :=
  modPort_allBut g _ _

theorem promptEgress_allBut (g : Gateway) (p : PortId) :
    AllBut [.portA, .portB, .agentQueue] g (g.promptEgress p) := by
  intro x hx
  cases p <;> cases x <;> simp_all [Part.Same, Gateway.promptEgress, Gateway.modPort]

/-! ## Flags, POOL_LOW, ALERT and notices -/

theorem poolEval_allBut (g : Gateway) : AllBut [.portA, .portB, .monitor] g g.poolEval := by
  unfold Gateway.poolEval
  dsimp only
  have h : AllBut [.portA, .portB, .monitor] g (g.handLevel .poolLow g.poolLow) :=
    (handLevel_allBut g _ _).mono (by simp)
  split
  · exact h.trans ((modBoth_allBut _ _ _).mono (by simp))
  · exact h

theorem noticeAsk_allBut (g : Gateway) : AllBut latchParts g g.noticeAsk := by
  unfold Gateway.noticeAsk
  dsimp only
  split
  · exact AllBut.refl _ _
  · split
    · refine AllBut.trans (h := { g with free := g.free - 1 }) ?_ ?_
      · intro x hx
        cases x <;> simp_all [Part.Same, latchParts]
      · refine AllBut.trans ((modPort_allBut _ _ _).mono ?_) ((poolEval_allBut _).mono (by simp [latchParts]))
        intro x hx
        revert hx
        cases g.noticeBuffer.ingress <;> simp_all [portPart, latchParts]
    · exact (setFlag_allBut g _).mono (by simp [latchParts])

theorem alertEval_allBut (g : Gateway) : AllBut latchParts g g.alertEval := by
  unfold Gateway.alertEval
  dsimp only
  have h : AllBut latchParts g { g with monitor := { g.monitor with alert := g.asserts } } := by
    intro x hx
    cases x <;> simp_all [Part.Same, latchParts]
  split
  · exact h.trans (noticeAsk_allBut _)
  · exact h

theorem latch_allBut (g : Gateway) (src : Source) : AllBut latchParts g (g.latch src) :=
  ((setFlag_allBut g src).mono (by simp [latchParts])).trans (alertEval_allBut _)

theorem evalLevel_allBut (g : Gateway) (c : Level) (v : Bool) : AllBut latchParts g (g.evalLevel c v) :=
  ((handLevel_allBut g c v).mono (by simp [latchParts])).trans (alertEval_allBut _)

theorem evalPool_allBut (g : Gateway) : AllBut latchParts g g.evalPool :=
  ((poolEval_allBut g).mono (by simp [latchParts])).trans (alertEval_allBut _)

/-- With notices off, a re-evaluation of ALERT sets the pin and does nothing else (R176, R177). -/
theorem alertEval_of_noticeOff (g : Gateway) (h : g.general.noticeEnable = false) :
    g.alertEval = { g with monitor := { g.monitor with alert := g.asserts } } := by
  unfold Gateway.alertEval
  dsimp only
  split
  · simp [Gateway.noticeAsk, h]
  · rfl

/-- With notices off, an occurrence sets its flag and the pin (R170, R176). -/
theorem latch_of_noticeOff (g : Gateway) (src : Source) (h : g.general.noticeEnable = false) :
    g.latch src = { g with monitor := { g.monitor.setFlag src with alert := (g.setFlag src).asserts } } := by
  unfold Gateway.latch
  rw [alertEval_of_noticeOff _ (by simpa using h)]
  rfl

/-- With notices and pool pause off, a re-evaluation of POOL_LOW touches the Event Monitor alone (R50, R51). -/
theorem evalPool_of_off (g : Gateway) (h : g.general.noticeEnable = false) (h' : g.general.poolPause = false) :
    g.evalPool =
      { g with
        monitor := { g.monitor.handLevel g.general.edgeSelect .poolLow g.poolLow with
          alert := (g.handLevel .poolLow g.poolLow).asserts } } := by
  have e : g.poolEval = g.handLevel .poolLow g.poolLow := by
    simp [Gateway.poolEval, h']
  unfold Gateway.evalPool
  rw [e, alertEval_of_noticeOff _ (by simpa using h)]
  rfl

/-- Flags added to a word leave an unmasked one unmasked. -/
theorem unmasked_or (flags more mask : Word) (h : flags &&& ~~~ mask ≠ 0) : (flags ||| more) &&& ~~~ mask ≠ 0 := by
  intro e
  apply h
  ext i hi
  have := congrArg (fun w : Word => w.getLsbD i) e
  simp at this ⊢
  grind

/-- A flag that latches leaves an asserted ALERT asserted (R170, R176). -/
theorem setFlag_asserts (m : Monitor) (src : Source) (mask0 mask1 : Word) (h : m.asserts mask0 mask1 = true) :
    (m.setFlag src).asserts mask0 mask1 = true := by
  simp only [Monitor.asserts, Monitor.unmasked0, Monitor.unmasked1, Bool.or_eq_true, bne_iff_ne] at h ⊢
  exact h.imp (unmasked_or _ _ _) (unmasked_or _ _ _)

/-- So does an evaluation of a level (R171, R176). -/
theorem handLevel_asserts (m : Monitor) (edges : Word) (c : Level) (v : Bool) (mask0 mask1 : Word)
    (h : m.asserts mask0 mask1 = true) : (m.handLevel edges c v).asserts mask0 mask1 = true := by
  unfold Monitor.handLevel
  repeat' split
  · exact h
  · exact setFlag_asserts _ _ _ _ h
  · exact h

/-- Neither moves the pin (R176 does). -/
theorem handLevel_alert (m : Monitor) (edges : Word) (c : Level) (v : Bool) :
    (m.handLevel edges c v).alert = m.alert := by
  unfold Monitor.handLevel
  repeat' split
  all_goals rfl

/-- Handing POOL_LOW its level records that level and no other (R50, R171). -/
theorem handLevel_poolLow_history (m : Monitor) (edges : Word) (v : Bool) :
    (m.handLevel edges .poolLow v).history = { m.history with poolLow := v } := by
  unfold Monitor.handLevel
  split <;> rename_i h
  · simp [Levels.get] at h
    rw [← h]
  · dsimp only
    split <;> rfl

/-- A re-evaluation of POOL_LOW hands its level to the Event Monitor (R50). -/
theorem poolEval_monitor (g : Gateway) :
    g.poolEval.monitor = g.monitor.handLevel g.general.edgeSelect .poolLow g.poolLow := by
  unfold Gateway.poolEval
  dsimp only
  split
  · exact modBoth_allBut _ _ _ .monitor (by simp)
  · rfl

/-- What a notice asked for latches leaves an asserted ALERT and its pin as they are (R144, R177, R178). -/
theorem noticeAsk_alertOk (g : Gateway) (h : g.AlertOk) (raised : g.asserts = true) : g.noticeAsk.AlertOk := by
  unfold Gateway.noticeAsk
  dsimp only
  split
  · exact h
  · split
    · have hm : ∀ g' : Gateway, g'.monitor = g.monitor → g'.general = g.general → g'.poolEval.AlertOk := by
        intro g' m w
        have e := poolEval_monitor g'
        have e' := (poolEval_allBut g') .general (by simp)
        simp only [Part.Same] at e'
        simp only [Gateway.AlertOk, Gateway.asserts, e, e', m, w, handLevel_alert] at h raised ⊢
        rw [h, raised, handLevel_asserts _ _ _ _ _ _ raised]
      exact hm _ (by simp) (by simp)
    · have e : (g.setFlag .noticeFailed).asserts = true := setFlag_asserts _ _ _ _ raised
      simp only [Gateway.AlertOk, e]
      exact h.trans raised

/-- A re-evaluation of ALERT leaves the pin asserted exactly while an unmasked flag is latched (R176). -/
theorem alertEval_alertOk (g : Gateway) : g.alertEval.AlertOk := by
  unfold Gateway.alertEval
  dsimp only
  split <;> rename_i h
  · exact noticeAsk_alertOk _ rfl (by simp only [Bool.and_eq_true] at h; exact h.1)
  · rfl

/-- A re-evaluation of POOL_LOW keeps the pool and records its level, and no other (R50, R171). -/
theorem poolEval_history (g : Gateway) :
    g.poolEval.poolLow = g.poolLow ∧
      g.poolEval.monitor.history = { g.monitor.history with poolLow := g.poolEval.poolLow } := by
  have e : g.poolEval.poolLow = g.poolLow := by
    have f := (poolEval_allBut g) .free (by simp)
    have w := (poolEval_allBut g) .general (by simp)
    simp only [Part.Same] at f w
    simp only [Gateway.poolLow, f, w]
  exact ⟨e, by rw [e, poolEval_monitor, handLevel_poolLow_history]⟩

/-- The take of a buffer for a notice moves POOL_LOW's level with the pool, and nothing asked for moves another
(R50, R144). -/
theorem noticeAsk_history (g : Gateway) (h : g.monitor.history.poolLow = g.poolLow) :
    g.noticeAsk.monitor.history = { g.monitor.history with poolLow := g.noticeAsk.poolLow } := by
  have same : g.monitor.history = { g.monitor.history with poolLow := g.poolLow } := by rw [← h]
  unfold Gateway.noticeAsk
  dsimp only
  repeat' split
  · exact same
  · exact (poolEval_history _).2.trans (by simp)
  · exact same

/-- A re-evaluation of ALERT leaves every recorded level but POOL_LOW's, which stays that of the pool (R50, R176). -/
theorem alertEval_history (g : Gateway) (h : g.monitor.history.poolLow = g.poolLow) :
    g.alertEval.monitor.history = { g.monitor.history with poolLow := g.alertEval.poolLow } := by
  unfold Gateway.alertEval
  dsimp only
  split
  · exact noticeAsk_history _ h
  · show g.monitor.history = { g.monitor.history with poolLow := g.poolLow }
    rw [← h]

/-- After a re-evaluation of POOL_LOW the level recorded is the one the pool is left with, and no other level has
moved (R50, R171). -/
theorem evalPool_history (g : Gateway) :
    g.evalPool.monitor.history = { g.monitor.history with poolLow := g.evalPool.poolLow } := by
  have h := (poolEval_history g).2
  show g.poolEval.alertEval.monitor.history = { g.monitor.history with poolLow := g.poolEval.alertEval.poolLow }
  rw [alertEval_history _ (by rw [h]), h]

/-! ## Ends of frames -/

theorem giveBack_allBut (g : Gateway) (n : Nat) : AllBut [.portA, .portB, .free] g (g.giveBack n) := by
  refine AllBut.trans (h := { g with free := g.free + n }) ?_ ((promptReturn_allBut _).mono (by simp))
  intro x hx
  cases x <;> simp_all [Part.Same]

@[simp] theorem giveBack_free (g : Gateway) (n : Nat) : (g.giveBack n).free = g.free + n := by
  simp [Gateway.giveBack, Gateway.promptReturn]

theorem reportEnd_allBut (g : Gateway) (b : PoolBuffer) (kind : EndKind) :
    AllBut (.restart :: latchParts) g (g.reportEnd b kind) := by
  have hr : AllBut (.restart :: latchParts) g { g with restart := .due } := by
    intro x hx
    cases x <;> simp_all [Part.Same]
  have hl : AllBut (.restart :: latchParts) g (g.latch .noticeFailed) :=
    (latch_allBut g _).mono (by simp [latchParts])
  unfold Gateway.reportEnd
  cases b.origin <;> cases kind <;> dsimp only <;>
    first | exact hl | exact AllBut.refl _ _ | (split <;> first | exact hr | exact AllBut.refl _ _)

/-- The parts that the end of a transmission or the discard of an old frame can change (R34, R60, R61). -/
def endParts : List Part :=
  [.portA, .portB, .free, .counters, .agentQueue, .restart, .monitor]

theorem endTransmission_allBut (g : Gateway) (p : PortId) (kind : EndKind) :
    AllBut endParts g (g.endTransmission p kind) := by
  have h0 : AllBut endParts g (g.modPort p Port.emptySlot) :=
    (modPort_allBut g p _).mono (by cases p <;> simp [portPart, endParts])
  unfold Gateway.endTransmission
  dsimp only
  split
  · refine AllBut.trans ?_ ((reportEnd_allBut _ _ _).mono (by simp [latchParts, endParts]))
    refine AllBut.trans ?_ ((evalPool_allBut _).mono (by simp [latchParts, endParts]))
    refine AllBut.trans ?_ ((promptEgress_allBut _ _).mono (by simp [endParts]))
    exact h0.trans ((giveBack_allBut _ _).mono (by simp [endParts]))
  · exact h0
  · exact h0

theorem discardAged_allBut (g : Gateway) (p : PortId) (e : QueueEntry) (q : Port) :
    AllBut endParts g (g.discardAged p e q) := by
  unfold Gateway.discardAged
  dsimp only
  refine AllBut.trans ?_ ((reportEnd_allBut _ _ _).mono (by simp [latchParts, endParts]))
  refine AllBut.trans ?_ ((evalPool_allBut _).mono (by simp [latchParts, endParts]))
  refine AllBut.trans ?_ ((promptEgress_allBut _ _).mono (by simp [endParts]))
  refine AllBut.trans ?_ ((giveBack_allBut _ _).mono (by simp [endParts]))
  refine AllBut.trans ?_ ((latch_allBut _ _).mono (by simp [latchParts, endParts]))
  refine AllBut.trans ?_ ((bump_allBut _ _ _).mono (by simp [endParts]))
  exact (setPort_allBut g p q).mono (by cases p <;> simp [portPart, endParts])

/-! ## Egress selection -/

theorem selectFrame_allBut (fuel : Nat) (p : PortId) (g : Gateway) :
    AllBut endParts g (Gateway.selectFrame fuel p g) := by
  induction fuel generalizing g with
  | zero => exact AllBut.refl _ _
  | succ n ih =>
    unfold Gateway.selectFrame
    split
    · exact AllBut.refl _ _
    · split
      · exact (discardAged_allBut g p _ _).trans (ih _)
      · exact (setPort_allBut g p _).mono (by cases p <;> simp [portPart, endParts])

theorem takePause_allBut (g : Gateway) (p : PortId) : AllBut [portPart p] g (g.takePause p) := by
  unfold Gateway.takePause
  dsimp only
  split
  · split <;> exact setPort_allBut _ _ _
  · exact AllBut.refl _ _

theorem selectEgress_allBut (g : Gateway) (p : PortId) : AllBut endParts g (g.selectEgress p) := by
  have h0 : AllBut endParts g (g.takePause p) :=
    (takePause_allBut g p).mono (by cases p <;> simp [portPart, endParts])
  unfold Gateway.selectEgress
  dsimp only
  split
  · split
    · exact h0.trans (selectFrame_allBut _ _ _)
    · exact h0
  · exact AllBut.refl _ _

theorem settle_allBut (g : Gateway) : AllBut endParts g g.settle :=
  ((selectEgress_allBut g .a).trans (selectEgress_allBut _ .b)).trans
    ((selectEgress_allBut _ .a).trans (selectEgress_allBut _ .b))

/-- No selection is taken on a port that has nothing to select (R57). -/
theorem selectEgress_of_settled (g : Gateway) (p : PortId) (h : (g.port p).Settled) : g.selectEgress p = g := by
  unfold Gateway.selectEgress
  dsimp only
  split
  · rename_i hc
    have hp := (h hc.1 hc.2).1
    have e : g.takePause p = g := by simp [Gateway.takePause, hp]
    rw [e]
    split
    · rename_i hr
      have hq := (h hc.1 hc.2).2 hr.2
      unfold Gateway.selectFrame
      simp [Port.head, hq.1, hq.2]
    · rfl
  · rfl

/-- Where no selection is due, the end of an event takes none. -/
theorem settle_of_settled (g : Gateway) (h : g.Settled) : g.settle = g := by
  unfold Gateway.settle
  rw [selectEgress_of_settled g .a h.1, selectEgress_of_settled g .b h.2, selectEgress_of_settled g .a h.1,
    selectEgress_of_settled g .b h.2]

/-! ## The agent's queue -/

theorem updateFirst_length (c : AgentEntry → Bool) (f : AgentEntry → AgentEntry) (l : List AgentEntry) :
    (updateFirst c f l).length = l.length := by
  induction l with
  | nil => rfl
  | cons e rest ih =>
    unfold updateFirst
    split <;> simp [ih]

theorem removeFirst_length (c : AgentEntry → Bool) (l : List AgentEntry) (h : l.any c = true) :
    (removeFirst c l).length + 1 = l.length := by
  induction l with
  | nil => simp at h
  | cons e rest ih =>
    unfold removeFirst
    split
    · simp
    · rename_i hc
      simp only [List.any_cons, Bool.or_eq_true] at h
      rcases h with h | h
      · exact absurd h hc
      · simp [ih h]

theorem beginExecution_allBut (g : Gateway) : AllBut [.agentQueue, .exec, .counters] g g.beginExecution := by
  unfold Gateway.beginExecution
  split
  · split
    · exact AllBut.refl _ _
    · intro x hx
      cases x <;> simp_all [Part.Same]
  · exact AllBut.refl _ _

theorem offerReply_allBut (c : AgentEntry → Bool) (g : Gateway) :
    AllBut (.agentQueue :: .restart :: latchParts) g (g.offerReply c) := by
  have hq : ∀ l, AllBut (.agentQueue :: .restart :: latchParts) g { g with agentQueue := l } := by
    intro l x hx
    cases x <;> simp_all [Part.Same]
  unfold Gateway.offerReply
  dsimp only
  split
  · exact AllBut.refl _ _
  · rename_i e he
    split
    · split
      · refine AllBut.trans ?_ ((promptAgent_allBut _).mono (by simp [latchParts]))
        refine (hq _).trans ((modPort_allBut _ _ _).mono ?_)
        intro x hx
        revert hx
        cases e.buf.ingress <;> simp_all [portPart, latchParts]
      · exact hq _
    · unfold Gateway.discardReply
      refine AllBut.trans ?_ ((reportEnd_allBut _ _ _).mono (by simp [latchParts]))
      refine AllBut.trans ?_ ((evalPool_allBut _).mono (by simp [latchParts]))
      refine AllBut.trans ?_ ((promptAgent_allBut _).mono (by simp [latchParts]))
      exact (hq _).trans ((giveBack_allBut _ _).mono (by simp [latchParts]))

theorem endExecution_allBut (g : Gateway) (ex : Execution) (status : RequestStatus) :
    AllBut replyParts g (g.endExecution ex status) := by
  unfold Gateway.endExecution
  dsimp only
  refine AllBut.trans (h := { g with
    exec := none
    agentQueue :=
      updateFirst AgentEntry.isExecuting
        (fun e => { e with buf := g.replyBuffer e (ex.payload status) (status == .restarting) }) g.agentQueue })
    ?_ (((offerReply_allBut _ _).mono (by simp [latchParts, replyParts])).trans
      ((beginExecution_allBut _).mono (by simp [replyParts])))
  intro x hx
  cases x <;> simp_all [Part.Same, replyParts]

/-- A failed operation changes nothing but what the reply and the next request change (R123). -/
theorem failOp_allBut (g : Gateway) (ex : Execution) (status : OpStatus) :
    AllBut replyParts g (g.failOp ex status) :=
  endExecution_allBut g _ _

/-- An operation that succeeds with more to come leaves the execution after it and nothing else (R120, R123). -/
theorem finishOp_of_more (g : Gateway) (ex : Execution) (status : OpStatus) (data : List Byte) (words : Nat)
    (h : ex.ops.tail ≠ []) :
    g.finishOp ex status data words = { g with exec := some (ex.after status data words) } := by
  unfold Gateway.finishOp
  dsimp only
  have e : ex.ops.tail.isEmpty = false := by
    cases hx : ex.ops.tail with
    | nil => exact absurd hx h
    | cons a l => rfl
  rw [if_neg (by simp [e])]
  simp [Execution.after, resultBytes]

/-- The model's check of a result's space is the manual's (R125). -/
theorem fits_iff_room (ex : Execution) (n : Nat) : ex.fits n = true ↔ ex.Room n := by
  have e : ex.ops.tail.length = ex.ops.length - 1 := List.length_tail
  unfold Execution.fits Execution.space Execution.Room replyCap
  rw [decide_eq_true_iff, e]
  omega

/-- The current operation of a decoded request. -/
theorem currentOp_of_runs {g : Gateway} {ex : Execution} {op : Op} (h : g.Runs ex op) : g.currentOp = some op := by
  simp [Gateway.currentOp, h.1, Execution.current, h.2.1, h.2.2]

end Sys2Proof.Machine
end

