-- ==== Sys2Proof/Laws/Commands.lean ====
section
/-! SUPPORT. What the decisions of the receive side and the run of an operation can do. -/

namespace Sys2Proof.Machine

/-! ## Decisions on the receive side -/

theorem portPart_mem (p : PortId) : portPart p ∈ [Part.portA, Part.portB] := by
  cases p <;> simp [portPart]

theorem answerNak_allBut (g : Gateway) (p : PortId) (r : DecisionRecord) (resp : Response) :
    AllBut [portPart p, .counters] g (g.answerNak p r resp) := by
  unfold Gateway.answerNak
  exact ((modPort_allBut g p _).mono (by simp)).trans ((bump_allBut _ _ _).mono (by simp))

theorem answerAck_allBut (g : Gateway) (p : PortId) : AllBut [portPart p, .counters] g (g.answerAck p) := by
  unfold Gateway.answerAck
  exact ((modPort_allBut g p _).mono (by simp)).trans ((bump_allBut _ _ _).mono (by simp))

theorem startHold_allBut (g : Gateway) (p : PortId) (r : DecisionRecord) :
    AllBut [portPart p, .counters] g (g.startHold p r) := by
  unfold Gateway.startHold
  exact ((modPort_allBut g p _).mono (by simp)).trans ((bump_allBut _ _ _).mono (by simp))

theorem holdOrBusy_allBut (g : Gateway) (p : PortId) (r : DecisionRecord) :
    AllBut [portPart p, .counters] g (g.holdOrBusy p r) := by
  unfold Gateway.holdOrBusy
  split
  · exact answerNak_allBut g p r _
  · exact startHold_allBut g p r

theorem silent_allBut (g : Gateway) (p : PortId) (r : DecisionRecord) : AllBut [portPart p] g (g.silent p r) :=
  modPort_allBut g p _

/-- A claim of a FORWARD frame touches ports, pool, counters and Event Monitor alone (R85). -/
theorem claimForward_allBut (g : Gateway) (p : PortId) (r : DecisionRecord) (f : Frame) (queue : QueueName) :
    AllBut (.counters :: latchParts) g (g.claimForward p r f queue) := by
  have h0 : AllBut (.counters :: latchParts) g { g with free := g.free - 1 } := by
    intro x hx
    cases x <;> simp_all [Part.Same, latchParts]
  unfold Gateway.claimForward
  dsimp only
  refine AllBut.trans ?_ ((evalPool_allBut _).mono (by simp [latchParts]))
  refine AllBut.trans ?_ ((answerAck_allBut _ p).mono (by cases p <;> simp [portPart, latchParts]))
  exact h0.trans ((modPort_allBut _ _ _).mono (by cases p <;> simp [portPart, latchParts, PortId.other]))

/-- What a NAK leaves of its port (R26, R77). -/
theorem answerNak_port (g : Gateway) (p : PortId) (r : DecisionRecord) (resp : Response) :
    (g.answerNak p r resp).port p =
      { g.port p with role := .answered resp, record := some { r with outcome := .answer resp } } := by
  simp [Gateway.answerNak]

/-- What a hold leaves of its port (R27, R86). -/
theorem startHold_port (g : Gateway) (p : PortId) (r : DecisionRecord) :
    (g.startHold p r).port p =
      { g.port p with
        role := .holding (64 * (g.port p).words.holdLimit.toNat) false
        record := some { r with outcome := .holding, treatment := g.treatmentOf r } } := by
  simp [Gateway.startHold]

/-! ## The run of an operation -/

/-- A FULL operation under another access level fails DENIED (R123). -/
theorem runOp_of_denied (g : Gateway) (body : Execution → OpOutcome) (ex : Execution) (h : g.exec = some ex)
    (ha : g.execAccess ≠ .full) : g.runOp true body = (g.failOp ex .denied).settle := by
  simp [Gateway.runOp, h, ha]

/-- An operation whose body fails ends the execution (R123). -/
theorem runOp_of_fail (g : Gateway) (full : Bool) (body : Execution → OpOutcome) (ex : Execution) (st : OpStatus)
    (h : g.exec = some ex) (ha : full = true → g.execAccess = .full) (hb : body ex = .fail st) :
    g.runOp full body = (g.failOp ex st).settle := by
  cases full <;> simp_all [Gateway.runOp]

/-- An operation whose body is done is followed by the next one, or by the reply (R120, R123). -/
theorem runOp_of_done (g g' : Gateway) (full : Bool) (body : Execution → OpOutcome) (ex : Execution)
    (st : OpStatus) (data : List Byte) (words : Nat) (h : g.exec = some ex)
    (ha : full = true → g.execAccess = .full) (hb : body ex = .done st data words g') :
    g.runOp full body = (g'.finishOp ex st data words).settle := by
  cases full <;> simp_all [Gateway.runOp]

/-- An operation that is done with more to come, where no selection is due, leaves its body's part and the
execution after it. -/
theorem runOp_of_done_more (g g' : Gateway) (full : Bool) (body : Execution → OpOutcome) (ex : Execution)
    (st : OpStatus) (data : List Byte) (words : Nat) (h : g.exec = some ex)
    (ha : full = true → g.execAccess = .full) (hb : body ex = .done st data words g') (ht : ex.ops.tail ≠ [])
    (hs : g'.Settled) : g.runOp full body = { g' with exec := some (ex.after st data words) } := by
  rw [runOp_of_done g g' full body ex st data words h ha hb, finishOp_of_more g' ex st data words ht]
  exact settle_of_settled _ hs

/-- A reading operation with words left to take goes on (R120). -/
theorem runOp_of_reading (g g' : Gateway) (full : Bool) (body : Execution → OpOutcome) (ex : Execution)
    (taken : List Word) (h : g.exec = some ex) (ha : full = true → g.execAccess = .full)
    (hb : body ex = .reading taken g') :
    g.runOp full body = { g' with exec := some { ex with taken := taken } } := by
  cases full <;> simp_all [Gateway.runOp]

/-! ## The checks of a WRITE -/

/-- The model's protection of an index is the one the words' bits spell (R43, R72, R130). -/
theorem protectedTarget_iff (g : Gateway) (t : Table) (i : Nat) (v : Word) (h : i < t.size) :
    g.protectedTarget t i v = true ↔ g.GuardedWord t i v := by
  cases t
  case port =>
    have h16 : i < 16 := h
    have e7 : i % 8 = 7 ↔ i = 7 ∨ i = 15 := by omega
    have e0 : i % 8 = 0 ↔ i = 0 ∨ i = 8 := by omega
    by_cases h8 : i < 8 <;>
      simp [Gateway.protectedTarget, Gateway.GuardedWord, portOfIndex, Gateway.port, rateCode, e7, e0, h8, or_assoc,
        and_assoc]
  case route =>
    have bits : ∀ a b : Word, (usePattern a ≠ usePattern b) ↔
        ∃ k ∈ [1, 2, 3, 4, 7, 8], a.getLsbD k ≠ b.getLsbD k := by
      intro a b
      have split : usePattern a = usePattern b ↔ ∀ k ∈ [1, 2, 3, 4, 7, 8], a.getLsbD k = b.getLsbD k := by
        constructor
        · intro e k hk
          have ek := congrArg (fun w : Word => w.getLsbD k) e
          simp only [List.mem_cons, List.not_mem_nil, or_false] at hk
          rcases hk with rfl | rfl | rfl | rfl | rfl | rfl <;> simpa [usePattern] using ek
        · intro e
          apply BitVec.eq_of_getLsbD_eq
          intro k hk
          by_cases m : k ∈ [1, 2, 3, 4, 7, 8]
          · simp only [usePattern, BitVec.getLsbD_and, e k m]
          · have z : (0x019E : Word).getLsbD k = false := by
              revert m
              revert k
              decide
            simp only [usePattern, BitVec.getLsbD_and, z, Bool.and_false]
      rw [ne_eq, split]
      push Not
      rfl
    have hb := bits v (g.route.getD (12 * (i / 12)) 0)
    simp only [Gateway.protectedTarget, Gateway.GuardedWord, routeWord, entryValid, Nat.add_zero, Bool.and_eq_true,
      Bool.or_eq_true, decide_eq_true_eq, beq_iff_eq, bne_iff_ne, hb, and_assoc]
  all_goals simp [Gateway.protectedTarget, Gateway.GuardedWord]

/-- The model's refusal of a value is the one the words' fields spell (R43, R52, R114, R115, R130). -/
theorem targetInRange_iff (t : Table) (i : Nat) (v : Word) : targetInRange t i v = false ↔ ValueRefused t i v := by
  cases t
  case port =>
    have lt : i % 8 < 8 := Nat.mod_lt _ (by decide)
    simp only [targetInRange, ValueRefused]
    generalize i % 8 = k at lt
    interval_cases k <;> simp [portWordInRange] <;> omega
  case meter =>
    have lt : i % 4 < 4 := Nat.mod_lt _ (by decide)
    simp only [targetInRange, ValueRefused]
    generalize i % 4 = k at lt
    interval_cases k <;> simp [meterWordInRange, ← BitVec.toNat_inj]
  case general =>
    by_cases mark : field v 0 8 ≤ 31
    · simp [targetInRange, ValueRefused, poolMarkOf, mark]
    · simp [targetInRange, ValueRefused, poolMarkOf, mark]
      omega
  all_goals simp [targetInRange, ValueRefused]

/-- One WRITE that meets no protected index writes word 0 of one port at most: between the two stands a word 7
(R43, R129, R130). -/
theorem write_reaches_one_mode_word (g : Gateway) (start : Nat) (ws : List Word)
    (h : ∀ iw ∈ writeTargets .port start ws, g.protectedTarget .port iw.1 iw.2 = false) :
    ¬ ((∃ v, (0, v) ∈ writeTargets .port start ws) ∧ ∃ v, (8, v) ∈ writeTargets .port start ws) := by
  have index : ∀ i v, (i, v) ∈ writeTargets .port start ws → ∃ j < ws.length, (start + j) % 16 = i := by
    intro i v m
    simp only [writeTargets, List.mem_map, Prod.exists, List.mk_mem_zipIdx_iff_getElem?, Prod.mk.injEq] at m
    obtain ⟨w, j, e, a, _⟩ := m
    exact ⟨j, (List.getElem?_eq_some_iff.mp e).1, a⟩
  have free7 : ∀ j < ws.length, (start + j) % 16 % 8 ≠ 7 := by
    intro j hj e
    have m : ((start + j) % 16, ws[j]) ∈ writeTargets .port start ws := by
      simp only [writeTargets, List.mem_map, Prod.exists, List.mk_mem_zipIdx_iff_getElem?, Prod.mk.injEq]
      exact ⟨ws[j], j, List.getElem?_eq_getElem hj, rfl, rfl⟩
    have := h _ m
    simp [Gateway.protectedTarget, e] at this
  rintro ⟨⟨v, a⟩, v', b⟩
  obtain ⟨j, hj, ej⟩ := index _ _ a
  obtain ⟨k, hk, ek⟩ := index _ _ b
  rcases Nat.lt_or_ge j k with l | l
  · exact free7 (j + 7) (by omega) (by omega)
  · exact free7 (k + 7) (by omega) (by omega)

/-! ## The response bits -/

/-- A sender reads each response by its levels (R13). -/
@[simp] theorem readResponse_levels (r : Response) : readResponse r.levels.1 r.levels.2 = r := by
  cases r <;> rfl

end Sys2Proof.Machine
end

