-- ==== Sys2Proof/Tests/Slice0.lean ====
section
/-! SUPPORT. Tests: the check on operands, one step of each command on a small state, and states that meet the
hypotheses of each statement. -/

namespace Sys2Proof.Machine.Slice0

/-! ## Small states -/

/-- The part after a command. -/
def after (c : Instr) (g : Gateway) : Gateway :=
  match exec c ⟨[], g⟩ with
  | .next t => t.gw
  | .fault _ => g
  | .refused _ => g

/-- An ACTIVE port with an idle line. -/
def live (p : PortId) : Port :=
  { Port.reset p with state := .active, linkUp := true, view := .idle 0 }

/-- A running part with both ports ACTIVE. -/
def base : Gateway :=
  { Gateway.reset with phase := .running, portA := live .a, portB := live .b }

/-- A data frame. -/
def data : Frame where
  dest := 0x2000
  src := 0x0010
  service := 0
  kind := kindData
  hop := 3
  spare := false
  tag := none
  payload := [0xAB, 0xCD]

/-- A request from a manager to own address 1, with its payload. -/
def request (payload : List Byte) : Frame :=
  { data with dest := 0x7F00, src := 0x0022, kind := kindRequest, payload := payload }

/-- A buffer with a data frame. -/
def buf : PoolBuffer := ⟨data, .a, .claimed, false⟩

/-- A port whose transmit slot is full. -/
def busy (q : Port) : Port := { q with slot := .pool buf, tx := .tWaitIdle }

/-- A port that is reading a frame. -/
def reading (q : Port) : Port := { q with rx := .rFrame, view := .inFrame }

/-- Both slots full, Port A reading a frame. -/
def receiving : Gateway :=
  { base with portA := reading (busy (live .a)), portB := busy (live .b), free := 30 }

/-- Route entry 0 with these words, the rest of the table 0. -/
def routeOf (words : List Word) : List Word := words ++ List.replicate (768 - words.length) 0

/-- An entry for destination 0x2000 from either port, with the flags of word 0 given, meter 3. -/
def entryOf (flags : Word) : List Word :=
  routeOf [0xC000 ||| flags, 0x2000, 0xFFFF, 0, 0, 0, 0, 0x3000, 0x0A0B, 0x0C0D, 3, 0]

/-- The part with a first route entry. -/
def routed (flags : Word) : Gateway := { receiving with route := entryOf flags }

/-- The part with a first route entry and meter 3 set. -/
def metered (mode : Word) (credit : Word) : Gateway :=
  { routed 0x0002 with meters := base.meters.set 3 ⟨0x8000 ||| mode, 10, 200, credit⟩ }

/-- A record of a hold. -/
def record (path : Path) (action : Option Action) : DecisionRecord :=
  { DecisionRecord.bare path .full data with action := action, outcome := .holding }

/-- Port A holding a frame. -/
def holding (retest : Bool) (r : DecisionRecord) (f : Frame) : Gateway :=
  { receiving with
    portA :=
      { busy (live .a) with
        rx := .rSlot, view := .inSlot, role := .holding 1024 retest, record := some r, staging := some ⟨f, 0⟩ } }

/-- A request under execution on Port A, whose slot is full. -/
def running (ops : List Op) (access : Access) : Gateway :=
  { receiving with
    exec := some ⟨true, 7, ops.length, ops, [], [], 0⟩
    agentQueue := [⟨⟨request [], .a, .request, false⟩, .one, access, .executing, false⟩]
    free := 29 }

/-- The execution of `running`. -/
def exOf (ops : List Op) : Execution := ⟨true, 7, ops.length, ops, [], [], 0⟩

/-- Port A sending its frame. -/
def sendingA (tx : TxState) : Gateway :=
  { base with
    portA :=
      { busy (live .a) with tx := tx, view := .inFrame, sending := some (Attempt.of data.bytes) }
    free := 31 }

/-- The frame `data` with the proof that its length fits. (A definition, so that Lean
checks all that stands above before it starts the theorems below, of which many would else wait at once.) -/
def fittingData : { f : Frame // f.fits = true } := ⟨data, by decide +kernel⟩

/-! ## The check on operands -/

theorem test_wf_frame : (completion .a data).wellFormed = true := by decide +kernel

theorem test_wf_frame_too_short : (Instr.receiveCompletion .a (data.bytes.take 9) 0).wellFormed = false := by
  decide +kernel

theorem test_wf_frame_too_long :
    (Instr.receiveCompletion .a ([0, 0, 0, 0, 0, 0, 0, 97] ++ List.replicate 97 0) 0).wellFormed = false := by
  decide +kernel

theorem test_wf_length_in_range : (Instr.lengthOutOfRange .a 96).wellFormed = false := by decide

theorem test_wf_no_bits : (Instr.busIdle .a 0).wellFormed = false := by decide

theorem test_wf_hold_too_long : (Instr.transmitOutcome .a (.claimed 16321 true true)).wellFormed = false := by decide

theorem test_wf_no_words :
    [Instr.ident 0, .read 0, .counters 0, .eventsRead 0, .storeRead 0].map Instr.wellFormed = List.replicate 5 false := by
  decide

theorem test_no_word_spells_a_command : decodeTableWord 16 0x1234 = none := rfl

/-! ## The line and the wire -/

/-- The nine bytes of R9 give 0x29B1. -/
theorem test_check_of_nine_bytes :
    crc [0x31, 0x32, 0x33, 0x34, 0x35, 0x36, 0x37, 0x38, 0x39] = 0x29B1 := by decide +kernel

theorem test_stuff_after_five : stuff (List.replicate 7 false) = [false, false, false, false, false, true, false, false] := by
  decide

theorem test_six_equal_bits_break : destuff (List.replicate 6 true) = none := by decide

/-- Kind, tag flag, hop count and spare bit in the control byte (R180). -/
theorem test_control_byte : { data with kind := 1, hop := 3 }.controlByte = 0x26 ∧
    { data with kind := 2, hop := 7, tag := some 0, spare := true }.controlByte = 0x5F := by decide

/-- An address and its bin (R81). -/
theorem test_bin_of_address : binOf 0x8123 = (0x23 ^^^ 0x04 ^^^ 0x08) ∧ binOf 0xFFFF = 15 := by decide

/-! ## Resets and the Boot Load -/

/-- A part with a TORN page and an erase in flight. -/
def torn : Gateway :=
  { base with
    store := { base.store with pages := base.store.pages.set 3 ⟨.torn, []⟩, inFlight := some (.erase, 4) } }

/-- A part in its Boot Load with page `n` next, the page holding these words. -/
def loading (n : Nat) (words : List Word) : Gateway :=
  { Gateway.reset with
    phase := .loading n
    store := { Store.manufactured with pages := Store.manufactured.pages.set n ⟨.written, words⟩ } }

/-- Sixteen words. -/
def sixteen (words : List Word) : List Word := words ++ List.replicate (16 - words.length) 0

theorem test_power_on_reset :
    (after .powerOnReset (running [.ident] .full)).phase = .held ∧
      (after .powerOnReset (running [.ident] .full)).free = 32 := by decide +kernel

theorem test_line_reset_keeps_pages :
    (after .lineReset torn).startCause = .line ∧ ((after .lineReset torn).store.pageAt 3).state = .torn ∧
      (after .lineReset torn).store.inFlight = some (.erase, 4) := by decide +kernel

theorem test_release_marks_torn :
    ((after .resetRelease { torn with phase := .held }).store.pageAt 4).state = .torn ∧
      (after .resetRelease { torn with phase := .held }).phase = .loading 1 := by decide +kernel

/-- Access and default action codes of 3 take their reset values, the rest of the word stands (R45). -/
theorem test_load_port_word :
    (after .bootPageLoad (loading 1 (sixteen [0xB331, 300, 5]))).portA.words.control = 0xB201 ∧
      (after .bootPageLoad (loading 1 (sixteen [0xB331, 300, 5]))).portA.words.holdLimit = 16 ∧
      (after .bootPageLoad (loading 1 (sixteen [0xB331, 300, 5]))).portA.words.holdTolerance = 5 := by decide +kernel

theorem test_load_end :
    (after .bootLoadEnd { loading 56 [] with meters := [⟨0x8000, 3, 90, 4⟩] }).meter 0 = ⟨0x8000, 3, 90, 90⟩ ∧
      (after .bootLoadEnd { loading 56 [] with loadFault := true }).portA.state = .linkDown ∧
      (after .bootLoadEnd { loading 56 [] with loadFault := true }).monitor.flags1 = 0x0020 := by decide +kernel

theorem test_request_reset :
    (after .requestReset { base with restart := .due }).startCause = .request ∧
      (after .requestReset { base with restart := .due }).phase = .loading 1 ∧
      (after .requestReset { base with restart := .pending }).phase = .running := by decide +kernel

/-! ## Local time and links -/

theorem test_tick :
    (after .tick { base with meters := base.meters.set 3 ⟨0x8000, 10, 200, 195⟩ }).meter 3 =
        ⟨0x8000, 10, 200, 200⟩ ∧
      (after .tick { base with portA := { live .a with normal := [⟨buf, 65535⟩] } }).portA.normal.map (·.age) =
        [65535] := by decide +kernel

theorem test_line_fault_restarts_count :
    (after (.lineFaultChange .a .noBias true) { base with portA := { live .a with linkCount := 9 } }).portA.linkCount =
      0 := by decide +kernel

/-- Ports LINK_DOWN with a change of level due. -/
def linkDue (up : Bool) : Gateway :=
  { base with portA := { live .a with state := if up then .active else .linkDown, linkUp := up, linkDue := true } }

theorem test_link_up :
    (after (.linkUp .a) (linkDue false)).portA.state = .active ∧
      (after (.linkUp .a) (linkDue false)).monitor.flags0 = 0x0001 := by decide +kernel

theorem test_link_down :
    (after (.linkDown .a) (linkDue true)).portA.state = .linkDown ∧
      (after (.linkDown .a) (linkDue true)).portA.linkUp = false := by decide +kernel

/-! ## Receiving -/

theorem test_bus_idle_at_eleven :
    (after (.busIdle .a 10) { base with portA := { live .a with view := .gap 0 } }).portA.view = .gap 10 ∧
      (after (.busIdle .a 11) { base with portA := { live .a with view := .gap 0 } }).portA.view = .idle 0 := by
  decide +kernel

theorem test_start_bit : (after (.startBit .a) base).portA.rx = .rFrame := by decide +kernel

/-- A routed frame is claimed: hop count one lower, in the other port's NORMAL queue (R85, R95). -/
theorem test_forward_claim :
    (after (completion .a data) (routed 0)).portB.normal.map (fun e => (e.buf.frame.hop, e.age)) = [(2, 0)] ∧
      (after (completion .a data) (routed 0)).portA.role = .answered .ack := by decide +kernel

theorem test_check_error :
    (after (.receiveCompletion .a data.bytes 0) receiving).counters.getD 1 0 = 1 ∧
      (after (.receiveCompletion .a data.bytes 0) receiving).monitor.flags0 = 0x0002 := by decide +kernel

theorem test_symbol_error :
    (after (.symbolError .a) receiving).counters.getD 2 0 = 1 ∧
      (after (.symbolError .a) receiving).portA.view = .resync 0 := by decide +kernel

theorem test_length_out_of_range : (after (.lengthOutOfRange .b 97) { base with portB := reading (live .b) }).counters.getD 16 0 = 1 := by
  decide +kernel

/-- A port in the slot of a PAUSE frame with this count. -/
def paused (count : Word) : Gateway :=
  { base with
    portA :=
      { live .a with
        rx := .rSlot, view := .inSlot, staging := some ⟨Frame.pauseOf 0x0100 count, 0⟩
        record := some (DecisionRecord.bare .pause .full (Frame.pauseOf 0x0100 count)) } }

theorem test_pause_frame :
    (after (.pauseRx .a) (paused 2)).portA.pause = .paused 512 ∧
      (after (.endDelimiter .a) (paused 0)).portA.pause = .running := by decide +kernel

theorem test_hold_retest_claims :
    (after (.holdRetest .a) (holding true (record .route (some .forward)) data)).portB.normal.length = 1 ∧
      (after (.holdRetest .a) (holding false (record .route (some .forward)) data)).portB.normal.length = 0 := by
  decide +kernel

theorem test_hold_expiry :
    (after (.holdExpiry .a) (holding false (record .route (some .forward)) data)).portA.role = .answered .nakBusy ∧
      (after (.holdExpiry .a) (holding false (record .route (some .forward)) data)).monitor.flags0 = 0x0020 := by
  decide +kernel

theorem test_pause_expiry :
    (after (.pauseExpiry .a) { base with portA := { live .a with pause := .paused 256, normal := [⟨buf, 3⟩] } }).portA.slot =
      .pool buf := by decide +kernel

/-! ## Sending -/

/-- After one failed attempt 32 bit times of idle are needed (R29). -/
theorem test_back_off :
    (after (.transmitStart .a .startBit)
        { base with portA := { busy (live .a) with attempts := 1, view := .idle 31 } }).portA.tx = .tWaitIdle ∧
      (after (.transmitStart .a .startBit)
        { base with portA := { busy (live .a) with attempts := 1, view := .idle 32 } }).portA.tx = .tArb := by
  decide +kernel

theorem test_claim_bit_reads_tolerance :
    (after (.transmitStart .a .claimBit) (sendingA .tSlot)).portA.tolerance = some 32 := by decide +kernel

theorem test_arb_lost :
    (after (.arbLost .a) (sendingA .tArb)).portA.rx = .rFrame ∧
      (after (.arbLost .a) (sendingA .tArb)).portA.attempts = 0 := by decide +kernel

/-- The collision leaves the abort pattern driven; the next recessive bit time ends it (R11, R31). -/
theorem test_collision :
    (after (.collision .a) (sendingA .tSend)).portA.attempts = 1 ∧
      (after (.collision .a) (sendingA .tSend)).portA.abort = [false, false, false, false, false, false, false] ∧
      (after (.busIdle .a 1) (after (.collision .a) (sendingA .tSend))).portA.abort = [] := by decide +kernel

/-- R13's table, read back, and the wired result of a busy claimant beside one that refuses. -/
theorem test_response_levels :
    [Response.ack, .nakBusy, .nakRefuse].map Response.levels = [(true, true), (true, false), (false, true)] ∧
      readResponse false false = .nakRefuse ∧
      wiredLevels ([SlotRole.answered .nakBusy, .answered .nakRefuse].map SlotRole.levels) = (true, true) := by decide

theorem test_transmit_done :
    (after (.transmitOutcome .a (.claimed 0 true true)) (sendingA .tSlot)).counters.getD 7 0 = 1 ∧
      (after (.transmitOutcome .a (.claimed 0 true true)) (sendingA .tSlot)).free = 32 := by decide +kernel

/-- R1 dominant and R2 recessive read NAK-BUSY; with retry limit 3 the fourth failed attempt is the last (R13, R33). -/
theorem test_retries_end :
    (after (.transmitOutcome .a (.claimed 2048 true false)) (sendingA .tSlot)).portA.attempts = 1 ∧
      (after (.transmitOutcome .a .unclaimed)
        { sendingA .tSlot with portA := { (sendingA .tSlot).portA with attempts := 3 } }).portA.slot = .empty := by
  decide +kernel

theorem test_hold_beyond_tolerance :
    (after (.holdBeyondTolerance .a) (sendingA .tSlot)).portA.view = .resync 0 := by decide +kernel

/-! ## The agent -/

/-- A request in decode. -/
def decoding (payload : List Byte) : Gateway :=
  { running [] .full with
    exec := some ⟨false, 0, 0, [], [], [], 0⟩
    agentQueue := [⟨⟨request payload, .a, .request, false⟩, .one, .full, .executing, false⟩] }

/-- SELECT, READ 12 and WRITE 1 (R120's example). -/
theorem test_decode :
    (after .requestDecode (decoding [9, 3, 2, 0, 0, 5, 3, 12, 4, 1, 0x12, 0x34])).exec =
      some ⟨true, 9, 3, [.select 0 5, .read 12, .write [0x1234]], [], [], 0⟩ := by decide +kernel

theorem test_malformed :
    ((after .requestDecode (decoding [9, 1, 2, 0])).portA.urgent.map fun e => e.buf.frame.payload) = [[9, 1, 0]] ∧
      (after .requestDecode (decoding [9, 1, 2, 0])).monitor.flags1 = 0x0100 := by decide +kernel

/-- A reply that waits for Port A, with its re-offer prompted. -/
def replying (room : Bool) : Gateway :=
  { receiving with
    portA := { receiving.portA with urgent := List.replicate (if room then 0 else 23) ⟨buf, 0⟩ }
    agentQueue := [⟨⟨data, .a, .reply, false⟩, .one, .full, .replyWait, true⟩] }

theorem test_reoffer :
    (after (.replyReoffer .a) (replying true)).agentQueue = [] ∧
      (after (.replyReoffer .a) (replying false)).agentQueue.map (·.offerDue) = [false] := by decide +kernel

/-- The execution a command leaves, its results and the words taken. -/
def resultOf (g : Gateway) : Option (List Byte × List Word) := g.exec.map fun ex => (ex.results, ex.taken)

theorem test_ident_words :
    resultOf (after (.ident 3) (running [.ident, .ident] .full)) = some ([], [0x3A15, 0x4120, 0x0002]) := by
  decide +kernel

theorem test_select :
    (after .select (running [.select 4 767, .ident] .full)).windowIndex = 767 ∧
      (after .select (running [.select 4 768, .ident] .full)).windowIndex = 0 := by decide +kernel

/-- R128's example: with the window at EVENTS index 4, READ 4 leaves it at 2. -/
theorem test_read_wraps :
    (after (.read 4) { running [.read 4, .ident] .full with windowTable := .events, windowIndex := 4 }).windowIndex =
      2 := by decide +kernel

/-- The status view of an ACTIVE port with its slot full (R44, R185). -/
theorem test_status_view :
    resultOf (after (.read 1) { running [.read 2, .ident] .full with windowIndex := 7 }) = some ([], [0xA200]) := by
  decide +kernel

theorem test_write_order :
    (after .write { running [.write [1, 2], .ident] .full with windowTable := .group, windowIndex := 7 }).group =
        [2, 0, 0, 0, 0, 0, 0, 1] ∧
      (after .write { running [.write [1]] .full with windowTable := .counters }).portA.urgent.map
        (fun e => e.buf.frame.payload) = [[7, 0, 1, 0x11, 0]] := by decide +kernel

theorem test_port_offline :
    (after (.portOffline .b) { running [.write [0x1100], .ident] .full with windowIndex := 8 }).portB.state = .offline ∧
      (after (.portOffline .b) { running [.write [0x1100], .ident] .full with windowIndex := 8 }).free = 30 := by
  decide +kernel

/-- Port B OFFLINE, the window at its word 0. -/
def offlineB (v : Word) : Gateway :=
  { running [.write [v], .ident] .full with
    portB := { Port.reset .b with state := .offline, words := { PortWords.reset .b with control := 0x1100 } }
    windowIndex := 8, free := 30 }

theorem test_port_online :
    (after (.portOnline .b) (offlineB 0x9100)).portB.state = .linkDown ∧
      (after (.portOnline .a) (offlineB 0x9100)).portB.state = .offline := by decide +kernel

theorem test_group_bins :
    (after .groupSet (running [.groupSet 1 [63, 0], .ident] .full)).group = [0, 0, 0, 0, 1, 0, 0, 0x8000] ∧
      (after .groupClear { running [.groupClear 1 [63], .ident] .full with group := [0, 0, 0, 0, 1, 0, 0, 0x8000] }).group =
        [0, 0, 0, 0, 1, 0, 0, 0] := by decide +kernel

theorem test_counters :
    resultOf (after (.counters 4)
        { running [.counters 2, .ident] .full with counters := (List.range 48).map (BitVec.ofNat 16) }) =
      some ([0, 8, 0, 28, 0, 29, 0, 30, 0, 31], []) := by decide +kernel

theorem test_counters_clear :
    ((after .countersClear
        { running [.countersClear 2, .ident] .full with counters := List.replicate 48 5 }).counters.drop 27).take 6 =
      [5, 0, 0, 0, 0, 5] := by decide +kernel

theorem test_events_read :
    resultOf (after (.eventsRead 6) (running [.eventsRead, .ident] .full)) =
      some ([0, 12, 0, 0, 0, 0, 0xFF, 0xFF, 0xFF, 0xFF, 0x01, 0x55, 0, 3], []) := by decide +kernel

/-- The part with these flags, masks all set but for the listed ones of word 1. -/
def flagged (ops : List Op) (unmasked : Word) : Gateway :=
  { running ops .full with
    monitor := ⟨0x0003, 0x0080, ⟨true, true, false, false, false⟩, unmasked != 0⟩
    general := { General.reset with mask1 := ~~~ unmasked } }

theorem test_events_clear :
    (after .eventsClear (flagged [.eventsClear 0x0001 0xFFFF, .ident] 0x0080)).monitor.flags0 = 0x0002 ∧
      (after .eventsClear (flagged [.eventsClear 0x0001 0xFFFF, .ident] 0x0080)).monitor.alert = false := by
  decide +kernel

theorem test_events_mask :
    (after .eventsMask (flagged [.eventsMask 0xFFFF 0xFF7F, .ident] 0)).monitor.alert = true := by decide +kernel

/-- A captured frame with a tag. -/
def captured (ops : List Op) : Gateway :=
  { running ops .full with capture := [⟨{ data with tag := some 0x0A0B0C0D }, .b, .claimed, false⟩], free := 28 }

theorem test_capture_take :
    resultOf (after .captureTake (captured [.captureTake, .ident])) =
        some ([0, 15, 1, 0x20, 0, 0, 0x10, 0, 0, 0x16, 2, 0x0A, 0x0B, 0x0C, 0x0D, 0xAB, 0xCD], []) ∧
      (after .captureTake (captured [.captureTake, .ident])).free = 29 := by decide +kernel

/-- A running part with its store at this address and its page buffer marked from word 14 on. -/
def stored (ops : List Op) (page word : Nat) : Gateway :=
  { running ops .full with
    store := { Store.manufactured with page := page, word := word } }

theorem test_store_select :
    (after .storeSelect (stored [.storeSelect 63 15, .ident] 0 0)).store.page = 63 ∧
      (after .storeSelect (stored [.storeSelect 64 15, .ident] 0 0)).store.page = 0 := by decide +kernel

theorem test_store_read_short :
    resultOf (after (.storeRead 9) (stored [.storeRead 3, .ident] 9 14)) = some ([1, 4, 0, 0, 0, 0], []) ∧
      (after (.storeRead 9) (stored [.storeRead 3, .ident] 9 14)).store.word = 15 := by decide +kernel

theorem test_store_fill :
    (after .storeFill (stored [.storeFill [1, 2, 3], .ident] 9 14)).store.buffer.drop 13 =
        [⟨0, false⟩, ⟨1, true⟩, ⟨2, true⟩] ∧
      resultOf (after .storeFill (stored [.storeFill [1, 2, 3], .ident] 9 14)) = some ([1, 0], []) := by
  decide +kernel

theorem test_store_stage :
    (after .storeStage (stored [.storeStage, .ident] 2 0)).store.buffer.getD 9 ⟨0, false⟩ = ⟨0x0155, true⟩ ∧
      (after .storeStage (stored [.storeStage, .ident] 2 0)).store.word = 15 := by decide +kernel

theorem test_store_erase :
    (after .storeErase (stored [.storeErase, .ident] 5 0)).store.inFlight = some (.erase, 5) ∧
      resultOf (after .storeErase (stored [.storeErase, .ident] 5 0)) = some ([0, 0], []) := by decide +kernel

theorem test_store_write :
    (after .storeWrite (stored [.storeWrite, .ident] 5 0)).store.state = .sWriting ∧
      (after .storeWrite (stored [.storeWrite] 0 0)).portA.urgent.map (fun e => e.buf.frame.payload) =
        [[7, 0, 1, 0x11, 0]] := by decide +kernel

theorem test_store_status :
    resultOf (after .storeStatus
        { stored [.storeStatus, .ident] 5 9 with
          store := { (stored [] 5 9).store with last := some (.write, 7) } }) =
      some ([0, 8, 0, 0, 2, 7, 0, 0, 5, 9], []) := by decide +kernel

theorem test_restart :
    (after .restart (running [.restart, .ident] .full)).restart = .pending ∧
      (after .restart (running [.restart, .ident] .full)).portA.urgent.map (fun e => e.buf.frame.payload) =
        [[7, 2, 2, 0, 0, 0x20, 0]] := by decide +kernel

/-- A part with an erase or a write of page 5 under way. -/
def working (kind : StoreOp) (timer : Nat) : Gateway :=
  { base with
    store :=
      { Store.manufactured with
        page := 5
        state := if kind = .erase then .sErasing else .sWriting
        inFlight := some (kind, 5)
        timer := timer
        buffer := ⟨7, true⟩ :: ⟨8, false⟩ :: List.replicate 14 ⟨0, false⟩ } }

theorem test_erase_complete :
    (after .storeEraseComplete (working .erase 20)).store.last = some (.erase, 5) ∧
      (after .storeEraseComplete (working .erase 19)).store.state = .sErasing := by decide +kernel

theorem test_write_complete :
    (((after .storeWriteComplete (working .write 12)).store.pageAt 5).words).take 2 = [7, 0] ∧
      (after .storeWriteComplete (working .write 11)).store.state = .sWriting := by decide +kernel

/-! ## States that meet the hypotheses of the statements, clause by clause -/

/-- The commands of a state with an empty queue. -/
abbrev at' (g : Gateway) : State := ⟨[], g⟩

theorem test_meets_RequestResetNeedsDueRestart :
    { base with restart := .due }.restart = .due ∧ base.restart ≠ .due := by decide

theorem test_meets_ReleaseMarksPageTorn :
    { torn with phase := .held }.phase = .held ∧ 63 < torn.store.pages.length ∧
      torn.store.inFlight.map Prod.snd = some 4 ∧ torn.store.inFlight.map Prod.snd ≠ some 5 ∧
      base.phase ≠ .held := by decide +kernel

/-- A part in its Boot Load whose next page is TORN. -/
def loadingTorn (n : Nat) : Gateway :=
  { Gateway.reset with
    phase := .loading n
    store := { Store.manufactured with pages := Store.manufactured.pages.set n ⟨.torn, sixteen []⟩ } }

theorem test_meets_BootLoadsPortPage :
    (loading 1 []).phase = .loading 1 ∧ ((loadingTorn 1).store.pageAt 1).state = .torn ∧
      (∀ w < 16, ((loading 1 (sixteen [])).store.pageAt 1).read w = 0) ∧
      (∃ w < 16, ((loading 1 (sixteen [0x9200])).store.pageAt 1).read w ≠ 0) ∧
      ((loading 1 (sixteen [0x9200])).store.pageAt 1).state ≠ .torn ∧
      portWordInRange 6 0xFFFF = true ∧ portWordInRange 5 0 = false := by decide +kernel

theorem test_meets_BootLoadsGeneralPage :
    (loading 2 []).phase = .loading 2 ∧ ((loadingTorn 2).store.pageAt 2).state = .torn ∧
      (∃ w < 16, ((loading 2 (sixteen [1])).store.pageAt 2).read w ≠ 0) ∧
      31 < poolMarkOf (((loading 2 (sixteen [1, 0, 0, 0, 0, 0, 0, 0, 0, 0, 0x8020])).store.pageAt 2).read 10) := by
  decide +kernel

/-- A page 2 that raises the mark over the free count, with no flag masked: the edge latches and ALERT rises. -/
theorem test_load_moves_pool_low :
    let g := { loading 2 (sixteen [0, 0, 0, 0, 0, 0, 0, 0, 0, 0x0155, 20]) with free := 10 }
    let t := after .bootPageLoad g
    g.portA.state = .starting ∧ g.portB.state = .starting ∧ g.monitor.history.poolLow = false ∧
      t.monitor.history.poolLow = true ∧ edgeLatches t.general.edgeSelect .poolLow true = true ∧
      t.monitor.flags1 = 1 ∧ t.monitor.alert = true := by decide +kernel

theorem test_meets_BootLoadsGroupAndRoutePages :
    (loading 3 []).phase = .loading 3 ∧ (loading 8 []).phase = .loading 8 ∧ (loading 55 []).phase = .loading 55 ∧
      767 < (loading 55 []).route.length ∧ ((loadingTorn 55).store.pageAt 55).state = .torn := by decide +kernel

theorem test_meets_BootLoadsMeterPages :
    (loading 4 []).phase = .loading 4 ∧ (loading 7 []).phase = .loading 7 ∧ 15 < (loading 7 []).meters.length ∧
      4 * (7 - 4) ≤ 15 ∧ 15 < 4 * (7 - 4) + 4 ∧ ((loadingTorn 7).store.pageAt 7).state = .torn ∧
      ((loading 7 (sixteen [])).store.pageAt 7).state ≠ .torn := by decide +kernel

/-- The end of a Boot Load with a route entry, an enabled meter and both faults to hand. -/
def ending : Gateway :=
  { loading 56 [] with
    route := entryOf 0
    loadFault := true
    meters := base.meters.set 3 ⟨0x8000, 10, 200, 7⟩
    store := { Store.manufactured with inFlight := some (.write, 9) } }

theorem test_meets_BootLoadEndSettles :
    ending.phase = .loading 56 ∧ ending.route.length = 768 ∧ 3 < ending.meters.length ∧
      entryValid (routeWord ending.route 0 0) = true ∧ entryWellFormed ending.route 0 = true ∧
      (∀ v < 12, (ending.store.pageAt (8 + (12 * 0 + v) / 16)).state ≠ .torn) ∧
      (ending.meter 3).enabled = true ∧ (ending.meter 4).enabled = false ∧
      ending.store.inFlight.isSome = true ∧ ending.loadFault = true ∧ (loading 56 []).store.inFlight = none ∧
      (loading 56 []).loadFault = false := by decide +kernel

/-- A hold that waits for meter 3, which the next tick raises. -/
def heldByMeter : Gateway :=
  { holding false { record .route (some .forward) with meter := some 3, treatment := some (true, .hold) } data with
    meters := base.meters.set 3 ⟨0x8001, 10, 200, 195⟩ }

theorem test_meets_TickRefillsMeters :
    heldByMeter.phase = .running ∧ heldByMeter.meters.length = 16 ∧ (heldByMeter.meter 3).enabled = true ∧
      (heldByMeter.meter 15).enabled = false ∧ heldByMeter.portA.role = .holding 1024 false ∧
      heldByMeter.portA.record =
        some { record .route (some .forward) with meter := some 3, treatment := some (true, .hold) } := by
  decide +kernel

theorem test_meets_TickAgesAndCounts : base.phase = .running ∧ torn.phase = .running ∧ (loading 5 []).phase ≠ .running := by
  decide

theorem test_meets_LinkUpActivates :
    (linkDue false).portA.state ≠ .starting ∧ (linkDue false).portA.linkDue = true ∧
      (linkDue false).portA.linkUp = false ∧ (linkDue false).monitor.history.get (.link .a) = false ∧
      edgeLatches (linkDue false).general.edgeSelect (.link .a) true = true ∧
      (linkDue false).portA.state = .linkDown := by decide

theorem test_meets_LinkDownAbandons :
    (linkDue true).portA.state = .active ∧ (linkDue true).portA.linkDue = true ∧ (linkDue true).portA.linkUp = true ∧
      (linkDue true).general.noticeEnable = false ∧ (linkDue true).Settled ∧
      (linkDue true).portA.tx = .tIdle := by decide

/-- A due fall of the link level with an attempt under way, and with a hold. -/
theorem test_meets_LinkDownAbandons_busy :
    { sendingA .tSlot with portA := { (sendingA .tSlot).portA with linkDue := true } }.portA.tx = .tSlot ∧
      { sendingA .tSlot with portA := { (sendingA .tSlot).portA with linkDue := true } }.Settled ∧
      (holding true (record .route (some .forward)) data).portA.role ≠ .nonClaimant := by decide

theorem test_meets_ElevenRecessiveBitsIdle :
    base.portA.state ≠ .starting ∧ Gateway.reset.portA.state = .starting := by decide

theorem test_meets_BrokenFramesAreAbandoned :
    96 < (97 : Byte).toNat ∧ receiving.portA.state ≠ .starting ∧ receiving.portA.rx = .rFrame ∧
      base.portA.rx ≠ .rFrame ∧ Gateway.reset.portA.state = .starting := by decide

/-- A frame with a group source is illegal (R8). -/
theorem test_meets_BadFramesAreNotClaimed :
    data.fits = true ∧ receiving.portA.state ≠ .starting ∧ receiving.portA.rx = .rFrame ∧ receiving.Settled ∧
      crc data.bytes ≠ 0 ∧ { data with src := 0x8000 }.illegal = true ∧ { data with kind := 5 }.illegal = true := by
  decide +kernel

/-- A port that is OFFLINE, or LINK_DOWN, reading a frame. -/
def quiet (state : PortState) : Gateway := { base with portA := reading { live .a with state := state } }

theorem test_meets_GoodFrameOutsideActiveIsDropped :
    data.fits = true ∧ data.illegal = false ∧ (quiet .offline).portA.state = .offline ∧
      (quiet .linkDown).portA.state = .linkDown ∧ (quiet .offline).portA.rx = .rFrame ∧ (quiet .offline).Settled ∧
      (quiet .linkDown).Settled :=
  ⟨by decide, by decide, by decide, by decide, by decide, by decide, by decide⟩

theorem test_meets_EndDelimiterEndsSlot :
    (holding false (record .route (some .forward)) data).portA.state ≠ .starting ∧
      (holding false (record .route (some .forward)) data).portA.rx = .rSlot ∧
      (holding false (record .route (some .forward)) data).portA.pauseFrame = none ∧
      (holding false (record .route (some .forward)) data).portA.isHolding = true ∧
      { live .a with rx := .rSlot }.isHolding = false ∧ { live .a with rx := .rSlot }.pauseFrame = none := by decide

theorem test_meets_PauseFrameSetsPause :
    (paused 2).portA.state = .active ∧ (paused 2).portA.rx = .rSlot ∧ (paused 2).portA.isHolding = false ∧
      (paused 2).portA.staging = some ⟨Frame.pauseOf 0x0100 2, 0⟩ ∧
      (paused 2).portA.record = some (DecisionRecord.bare .pause .full (Frame.pauseOf 0x0100 2)) ∧
      (paused 2).counters.length = 48 ∧ (Frame.pauseOf 0x0100 0).pauseCount = 0 ∧
      (Frame.pauseOf 0x0100 0xFFFF).pauseCount = 65535 := by decide +kernel

theorem receives_data (g : Gateway) (h : g.portA.state = .active ∧ g.portA.rx = .rFrame) : g.Receives .a data :=
  ⟨h.1, h.2, by decide, by decide⟩

theorem routes_of (g : Gateway) (h : managementMatch g.general g.portA.words.access data = none) :
    g.Routes .a data :=
  ⟨by decide, h⟩

/-- A good PAUSE frame, and routes that IGNORE and REFUSE. -/
theorem test_meets_PauseIgnoreAndRefuseEndTheDecision :
    receiving.Receives .a (Frame.pauseOf 0x0100 1) ∧ receiving.Settled ∧ (routed 0x0400).Receives .a data ∧
      (routed 0x0400).Routes .a data ∧ ((routed 0x0400).routeRecord .a data).action = some .refuse ∧
      (routed 0x0800).Routes .a data ∧ ((routed 0x0800).routeRecord .a data).action = some .ignore ∧
      (routed 0x0800).Settled := by
  refine ⟨⟨rfl, rfl, by decide, by decide⟩, by decide, receives_data _ (by decide), routes_of _ (by decide),
    by decide +kernel, routes_of _ (by decide), by decide +kernel, by decide⟩

/-- Hop count 0; a group destination by the entry's rewrite, with its bin clear; an egress port that is not ACTIVE;
a frame that is wanted because it is no group frame, or by bypass. -/
theorem test_meets_ForwardChecksInOrder :
    (routed 0).Receives .a data ∧ (routed 0).Settled ∧ (routed 0).Routes .a data ∧
      ((routed 0).routeRecord .a data).action = some .forward ∧ { data with hop := 0 }.hop = 0 ∧
      ((routed 0).routeRecord .a { data with hop := 0 }).action = some .forward ∧ data.hop ≠ 0 ∧
      data.dest.getLsbD 15 = false ∧ ((routed 1).routeRecord .a data).bypass = true ∧
      { live .b with state := .linkDown }.state ≠ .active ∧
      lookup (routeOf [0xC000, 0x8123, 0xFFFF]) .a { data with dest := 0x8123 } = some 0 ∧
      (0x8123 : Word).getLsbD 15 = true ∧ binSet (routed 0).group .b (binOf 0x8123) = false := by
  refine ⟨receives_data _ (by decide), by decide, routes_of _ (by decide), by decide +kernel, by decide,
    by decide +kernel, by decide, by decide, by decide +kernel, by decide, by decide +kernel, by decide, by decide⟩

/-- No agent room; no capture room; one buffer left; the egress queues full; each with the hold limit on and off. -/
theorem test_meets_NoRoomHoldsOrAnswersBusy :
    receiving.takes .a (request []) = some .one ∧ receiving.Receives .a (request []) ∧
      { receiving with free := 0 }.free = 0 ∧ (routed 0x0C00).takes .a data = none ∧
      ((routed 0x0C00).routeRecord .a data).action = some .divert ∧ { routed 0x0C00 with free := 1 }.free < 2 ∧
      (routed 0).takes .a data = none ∧ (routed 0).Crosses .a ((routed 0).routeRecord .a data) data ∧
      { routed 0 with free := 1 }.free < 2 ∧
      24 ≤ { busy (live .b) with normal := List.replicate 23 ⟨buf, 0⟩ }.egressCount ∧
      (routed 0).portA.words.holdLimit ≠ 0 ∧ { (routed 0).portA.words with holdLimit := 0 }.holdLimit = 0 := by
  refine ⟨by decide +kernel, ⟨rfl, rfl, by decide, by decide⟩, by decide, by decide +kernel, by decide +kernel,
    by decide, by decide +kernel, ?_, by decide, by decide, by decide, by decide⟩
  exact ⟨by decide +kernel, by decide, by decide +kernel, rfl⟩

theorem crosses_data (g : Gateway)
    (h : (g.routeRecord .a data).action = some .forward ∧ g.groupPasses .a (g.routeRecord .a data) data = true ∧
      g.portB.state = .active) : g.Crosses .a (g.routeRecord .a data) data :=
  ⟨h.1, by decide, h.2.1, h.2.2⟩

/-- A claim without a meter and one that conforms with its last credit; into URGENT and into NORMAL. -/
theorem test_meets_ForwardClaimQueuesFrame :
    (metered 0 10).Receives .a data ∧ (metered 0 10).Settled ∧ (metered 0 10).Routes .a data ∧
      (metered 0 10).Crosses .a ((metered 0 10).routeRecord .a data) data ∧ 2 ≤ (metered 0 10).free ∧
      (metered 0 10).portB.egressCount < 24 ∧ ((metered 0 10).routeRecord .a data).meter = some 3 ∧
      ((metered 0 10).meter 3).enabled = true ∧
      ((metered 0 10).routeRecord .a data).byteCount ≤ ((metered 0 10).meter 3).credit.toNat ∧
      (metered 0 10).general.noticeEnable = false ∧ (metered 0 10).portB.slot ≠ .empty ∧
      3 < (metered 0 10).meters.length ∧
      ((routed 0x0200).routeRecord .a data).queue = some .urgent ∧
      ((routed 0x0200).routeRecord .a data).meter = none := by
  refine ⟨receives_data _ (by decide), by decide, routes_of _ (by decide), crosses_data _ (by decide +kernel),
    by decide, by decide, by decide +kernel, by decide, by decide +kernel, by decide, by decide, by decide,
    by decide +kernel, by decide +kernel⟩

/-- The egress slot empty. -/
def emptyB : Gateway := { routed 0 with portB := live .b, free := 31 }

theorem test_meets_ForwardClaimFillsIdleSlot :
    emptyB.Receives .a data ∧ emptyB.Settled ∧ emptyB.Routes .a data ∧
      emptyB.Crosses .a (emptyB.routeRecord .a data) data ∧ 2 ≤ emptyB.free ∧
      (emptyB.routeRecord .a data).meter = none ∧ emptyB.general.noticeEnable = false ∧
      emptyB.general.poolPause = false ∧ emptyB.portB.slot = .empty ∧ emptyB.portB.pause = .running := by
  refine ⟨receives_data _ (by decide), by decide, routes_of _ (by decide), crosses_data _ (by decide +kernel),
    by decide, by decide +kernel, by decide, by decide, by decide, by decide⟩

/-- The same with the receiving port's slot empty and a pause count set. -/
def asking (mode : Word) : Gateway :=
  { metered mode 9 with
    portA := reading { live .a with words := { PortWords.reset .a with pauseCount := 5 } }
    free := 31 }

/-- One byte of credit short, in each of the four modes. -/
theorem test_meets_MeterModeDecides (mode : Word) (h : mode ∈ [(0 : Word), 1, 2, 3]) :
    (metered mode 9).Receives .a data ∧ (metered mode 9).Settled ∧ (metered mode 9).Routes .a data ∧
      (metered mode 9).Crosses .a ((metered mode 9).routeRecord .a data) data ∧ 2 ≤ (metered mode 9).free ∧
      (metered mode 9).portB.egressCount < 24 ∧ ((metered mode 9).routeRecord .a data).meter = some 3 ∧
      ((metered mode 9).meter 3).enabled = true ∧
      ((metered mode 9).meter 3).credit.toNat < ((metered mode 9).routeRecord .a data).byteCount ∧
      (metered mode 9).general.noticeEnable = false ∧ (metered mode 9).portB.slot ≠ .empty ∧
      (asking mode).portA.slot = .empty ∧ (asking mode).portA.words.pauseCount ≠ 0 ∧ (asking mode).Settled := by
  simp only [List.mem_cons, List.not_mem_nil, or_false] at h
  rcases h with rfl | rfl | rfl | rfl <;>
    refine ⟨receives_data _ (by decide), by decide, routes_of _ (by decide), crosses_data _ (by decide +kernel),
      by decide, by decide, by decide +kernel, by decide, by decide +kernel, by decide⟩

/-- A non-conforming frame in mode PAUSE puts the receiving port's PAUSE frame into its empty slot (R110). -/
theorem test_pause_ask :
    (after (completion .a data) (asking 2)).portA.slot = .pause (Frame.pauseOf 0x7F00 5) := by decide +kernel

theorem test_meets_MeterModeDecides_modes :
    ([0, 1, 2, 3].map fun m => ((metered m 9).meter 3).mode) = [.drop, .hold, .pause, .mark] := by decide

theorem test_meets_ManagementRequestIsQueued :
    receiving.Receives .a (request [1, 1, 1]) ∧ receiving.Settled ∧ (request [1, 1, 1]).kind ≠ kindPause ∧
      receiving.takes .a (request [1, 1, 1]) = some .one ∧ receiving.agentQueue.length < 2 ∧ 1 ≤ receiving.free ∧
      receiving.general.noticeEnable = false ∧ receiving.exec = none ∧ receiving.restart = .none ∧
      receiving.agentQueue.find? AgentEntry.isWaiting = none ∧ (running [.ident] .full).exec ≠ none ∧
      (running [.ident] .full).agentQueue.length < 2 := by
  refine ⟨⟨rfl, rfl, by decide, by decide⟩, by decide, by decide, by decide +kernel, by decide, by decide, by decide,
    by decide, by decide, by decide, by decide, by decide⟩

theorem test_meets_DivertedFrameIsCaptured :
    (routed 0x0C14).Receives .a data ∧ (routed 0x0C14).Settled ∧ (routed 0x0C14).Routes .a data ∧
      ((routed 0x0C14).routeRecord .a data).action = some .divert ∧ 2 ≤ (routed 0x0C14).free ∧
      (routed 0x0C14).capture.length < 4 ∧ (routed 0x0C14).general.noticeEnable = false := by
  refine ⟨receives_data _ (by decide), by decide, routes_of _ (by decide), by decide +kernel, by decide, by decide,
    by decide⟩

/-- Holds that wait for agent room, capture room and capacity, and the same with the relief found. -/
theorem test_meets_RetestTestsWhatWasWaitedFor :
    (holding true (record .management none) (request [])).portA.role = .holding 1024 true ∧
      (holding true (record .management none) (request [])).portA.record = some (record .management none) ∧
      (holding true (record .management none) (request [])).portA.staging = some ⟨request [], 0⟩ ∧
      (holding true (record .management none) (request [])).Settled ∧
      (record .management none).path = .management ∧
      (holding true (record .management none) (request [])).agentQueue.length < 2 ∧
      { holding true (record .management none) (request []) with free := 0 }.free = 0 ∧
      (record .route (some .divert)).path ≠ .management ∧ (record .route (some .divert)).action = some .divert ∧
      (holding true (record .route (some .divert)) data).capture.length < 4 ∧
      2 ≤ (holding true (record .route (some .divert)) data).free ∧
      (holding true (record .route (some .divert)) data).general.noticeEnable = false ∧
      { holding true (record .route (some .divert)) data with free := 1 }.free < 2 ∧
      (record .route (some .forward)).action = some .forward ∧
      { holding true (record .route (some .forward)) data with free := 1 }.free < 2 := by decide

/-- The record of a FORWARD hold under meter 3 with this treatment. -/
def treated (treatment : Option (Bool × MeterMode)) : DecisionRecord :=
  { record .route (some .forward) with meter := some 3, treatment := treatment }

/-- A prompted FORWARD hold under meter 3 with this credit. -/
def heldOn (treatment : Option (Bool × MeterMode)) (credit : Word) : Gateway :=
  { holding true (treated treatment) data with meters := base.meters.set 3 ⟨0x8001, 10, 200, credit⟩ }

/-- A FORWARD hold with capacity, under each recorded treatment, its credit one short and just enough. -/
theorem test_meets_RetestFollowsRecordedTreatment (t : Option (Bool × MeterMode))
    (h : t ∈ [none, some (false, .hold), some (true, .drop), some (true, .hold), some (true, .pause),
      some (true, MeterMode.mark)]) :
    (heldOn t 9).portA.role = .holding 1024 true ∧ (heldOn t 9).portA.record = some (treated t) ∧
      (heldOn t 9).portA.staging = some ⟨data, 0⟩ ∧ (heldOn t 9).Settled ∧ (treated t).path ≠ .management ∧
      (treated t).action = some .forward ∧ (treated t).meter = some 3 ∧ 2 ≤ (heldOn t 9).free ∧
      (heldOn t 9).portB.egressCount < 24 ∧ (heldOn t 9).portB.state = .active ∧
      (heldOn t 9).general.noticeEnable = false ∧ (heldOn t 9).portB.slot ≠ .empty ∧
      (heldOn t 9).portA.state = .active ∧ (treated t).reported = false ∧ ((heldOn t 9).meter 3).credit.toNat < (treated t).byteCount ∧
      ¬ ((heldOn t 10).meter 3).credit.toNat < (treated t).byteCount ∧ 3 < (heldOn t 10).meters.length := by
  simp only [List.mem_cons, List.not_mem_nil, or_false] at h
  rcases h with rfl | rfl | rfl | rfl | rfl | rfl <;> (repeat' apply And.intro) <;> decide

theorem test_meets_HoldExpiryAnswersBusy :
    (holding false (record .route (some .forward)) data).portA.isHolding = true ∧
      (holding false (record .route (some .forward)) data).portA.record = some (record .route (some .forward)) ∧
      (holding false (record .route (some .forward)) data).Settled ∧
      (holding false (record .route (some .forward)) data).portA.state = .active ∧
      (holding false (record .route (some .forward)) data).portA.rx = .rSlot ∧
      (record .route (some .forward)).path ≠ .pause := by decide

/-- A PAUSED port with a head of this age in URGENT. -/
def pausedWith (age : Nat) : Gateway :=
  { base with portA := { live .a with pause := .paused 256, urgent := [⟨buf, age⟩] }, free := 31 }

/-- An old head before one as old as the limit, which stands in URGENT or in NORMAL. -/
def pausedTwice (inUrgent : Bool) : Gateway :=
  { base with
    portA :=
      { live .a with
        pause := .paused 256
        urgent := ⟨buf, 2001⟩ :: (if inUrgent then [⟨buf, 2000⟩] else [])
        normal := if inUrgent then [] else [⟨buf, 2000⟩] }
    free := 30 }

theorem test_meets_PauseExpiryResumes :
    (pausedWith 2000).portA.pause = .paused 256 ∧ (pausedWith 2000).Settled ∧ (pausedWith 2000).portA.state = .active ∧
      (pausedWith 2000).portA.slot = .empty ∧ (pausedWith 2000).portA.urgent = [⟨buf, 2000⟩] ∧
      2000 ≤ (pausedWith 2000).portA.words.ageLimit.toNat ∧ (pausedWith 2001).portA.words.ageLimit ≠ 0 ∧
      (pausedWith 2001).portA.words.ageLimit.toNat < 2001 ∧ (pausedWith 2001).portA.normal = [] ∧
      (pausedWith 2001).general.noticeEnable = false ∧ (pausedWith 2001).general.poolPause = false ∧
      { live .a with pause := .paused 256 }.urgent = [] := by decide

/-- An old head with a second one behind it, in URGENT and in NORMAL. -/
theorem test_meets_PauseExpiryResumes_second :
    (pausedTwice true).portA.urgent = ⟨buf, 2001⟩ :: ⟨buf, 2000⟩ :: [] ∧ (pausedTwice true).Settled ∧
      (pausedTwice false).portA.urgent = ⟨buf, 2001⟩ :: [] ∧ (pausedTwice false).portA.normal = ⟨buf, 2000⟩ :: [] ∧
      (pausedTwice false).Settled ∧ (pausedTwice true).general.noticeEnable = false ∧
      (pausedTwice true).general.poolPause = false ∧
      2000 ≤ (pausedTwice true).portA.words.ageLimit.toNat := by
  (repeat' apply And.intro) <;> decide

theorem test_meets_TransmissionReachesItsPoints :
    (busy (live .a)).tx = .tWaitIdle ∧ (busy (live .a)).state = .active ∧
      (busy (live .a)).view = .idle 0 ∧ 32 * (busy (live .a)).attempts ≤ 0 ∧ (busy (live .a)).pause = .running ∧
      (busy (live .a)).slot = .pool buf ∧
      { busy (live .a) with pause := .paused 256, slot := .pause (Frame.pauseOf 0x0100 1) }.slot =
        .pause (Frame.pauseOf 0x0100 1) ∧
      (sendingA .tArb).portA.tx = .tArb ∧ (sendingA .tSend).portA.tx = .tSend ∧ (live .a).tx = .tIdle := by decide

theorem test_meets_BrokenTransmissions :
    (sendingA .tArb).Settled ∧ (sendingA .tArb).portA.tx = .tArb ∧ (sendingA .tSlot).portA.tx ≠ .tArb ∧
      (sendingA .tSend).portA.attempts + 1 ≤ (sendingA .tSend).portA.words.retryLimit.toNat ∧
      (sendingA .tSend).portA.words.retryLimit.toNat < 3 + 1 ∧ (sendingA .tSend).portA.urgent = [] ∧
      (sendingA .tSend).portA.normal = [] ∧ (sendingA .tSend).portA.pendingPause = false ∧
      (sendingA .tSend).general.noticeEnable = false ∧ (sendingA .tSend).general.poolPause = false := by decide

/-- Port A in the slot of its fourth attempt, Port B holding a frame for it. -/
def lastAttempt : Gateway :=
  { sendingA .tSlot with
    portA := { (sendingA .tSlot).portA with attempts := 3 }
    portB :=
      { live .b with
        rx := .rSlot, view := .inSlot, role := .holding 1024 false, record := some (record .route (some .forward))
        staging := some ⟨data, 0⟩ } }

/-- A link that is about to rise on Port A, for which Port B holds a frame. -/
theorem test_meets_LinkUpActivates_held :
    { linkDue false with portB := lastAttempt.portB }.portA.state = .linkDown ∧
      { linkDue false with portB := lastAttempt.portB }.portB.role = .holding 1024 false ∧
      { linkDue false with portB := lastAttempt.portB }.portB.record = some (record .route (some .forward)) := by decide

theorem test_meets_TransmitOutcomes :
    (sendingA .tSlot).Settled ∧ (sendingA .tSlot).portA.tx = .tSlot ∧
      2048 ≤ 64 * (sendingA .tSlot).portA.tolerance.getD (sendingA .tSlot).portA.words.holdTolerance.toNat ∧
      (sendingA .tSlot).portA.slot = .pool buf ∧ isGroup buf.frame.dest = false ∧ isGroup 0xFFFF = true ∧
      (sendingA .tSlot).portA.urgent = [] ∧ (sendingA .tSlot).portA.normal = [] ∧
      (sendingA .tSlot).portA.attempts + 1 ≤ (sendingA .tSlot).portA.words.retryLimit.toNat := by decide

/-- The last attempt of a port with nothing else to send, while the other port holds a frame. -/
theorem test_meets_TransmitOutcomes_last :
    lastAttempt.Settled ∧ lastAttempt.portA.tx = .tSlot ∧ lastAttempt.portA.slot = .pool buf ∧
      lastAttempt.portA.words.retryLimit.toNat < lastAttempt.portA.attempts + 1 ∧ lastAttempt.portA.urgent = [] ∧
      lastAttempt.portA.normal = [] ∧ lastAttempt.portA.pendingPause = false ∧
      lastAttempt.general.noticeEnable = false ∧ lastAttempt.general.poolPause = false ∧
      lastAttempt.portB.role = .holding 1024 false ∧
      lastAttempt.portB.record = some (record .route (some .forward)) := by decide

theorem test_meets_RequestDecodeJudges :
    (decoding [9, 1, 1]).exec = some ⟨false, 0, 0, [], [], [], 0⟩ ∧
      (decoding [9, 1, 1]).executing =
        some ⟨⟨request [9, 1, 1], .a, .request, false⟩, .one, .full, .executing, false⟩ ∧
      ([9, 1, 1] : List Byte) = 9 :: BitVec.ofNat 8 [Op.ident].length :: [Op.ident].flatMap Op.bytes ∧
      [Op.ident].all Op.fits = true ∧ (decoding [9, 1, 1]).Settled ∧
      (decoding [9, 1, 1]).general.noticeEnable = false ∧ (decoding [9, 1, 1]).counters.length = 48 := by
  decide +kernel

/-- A payload of one byte is no request (R121). -/
theorem test_meets_RequestDecodeJudges_malformed (tag : Byte) (ops : List Op) :
    ([9] : List Byte) ≠ tag :: BitVec.ofNat 8 ops.length :: ops.flatMap Op.bytes := by
  simp

theorem queues_reply (ops : List Op) (access : Access) :
    (running ops access).QueuesReply ⟨⟨request [], .a, .request, false⟩, .one, access, .executing, false⟩ :=
  ⟨rfl, rfl, nofun⟩

theorem test_meets_WaitingReplyIsReoffered :
    (replying true).Settled ∧ (∀ e ∈ base.agentQueue, AgentEntry.offerOn .a e = false) ∧
      (replying true).agentQueue = [] ++ ⟨⟨data, .a, .reply, false⟩, .one, .full, .replyWait, true⟩ :: [] ∧
      AgentEntry.offerOn .a ⟨⟨data, .a, .reply, false⟩, .one, .full, .replyWait, true⟩ = true ∧
      (replying true).portA.online = true ∧ (replying true).portA.egressCount < 24 ∧
      (replying true).portA.slot ≠ .empty ∧ 24 ≤ (replying false).portA.egressCount := by decide

theorem runs_first (op : Op) (ops : List Op) (access : Access) :
    (running (op :: ops) access).Runs (exOf (op :: ops)) op :=
  ⟨rfl, rfl, rfl⟩

/-- The first operation of `running` succeeds when no check of its rule fails. -/
theorem succeeds_first {op : Op} {ops : List Op} {access : Access}
    (h : ∀ st, ¬ (running (op :: ops) access).Fails (exOf (op :: ops)) op st) :
    (running (op :: ops) access).Succeeds (exOf (op :: ops)) op :=
  ⟨runs_first _ _ _, h⟩

theorem test_meets_ReadingOperationsTakeWords :
    (running [.ident, .ident] .read).Succeeds (exOf [.ident, .ident]) .ident ∧
      (running [.read 32, .ident] .read).Succeeds (exOf [.read 32, .ident]) (.read 32) ∧
      (running [.counters 3, .ident] .read).Succeeds (exOf [.counters 3, .ident]) (.counters 3) ∧
      (running [.eventsRead, .ident] .read).Succeeds (exOf [.eventsRead, .ident]) .eventsRead ∧
      (running [.ident, .ident] .read).Settled ∧ (exOf [.ident, .ident]).taken.length < 6 ∧
      (exOf [.ident, .ident]).ops.tail ≠ [] := by
  refine ⟨succeeds_first ?_, succeeds_first ?_, succeeds_first ?_, succeeds_first ?_, by decide⟩ <;>
    intro st <;> cases st <;>
    simp [Gateway.Fails, Op.needsFull, Execution.Room, exOf, blockSize]

theorem test_meets_SelectMovesWindow :
    (running [.select 6 5, .ident] .read).Runs (exOf [.select 6 5, .ident]) (.select 6 5) ∧
      (running [.select 6 5] .read).Runs (exOf [.select 6 5]) (.select 6 5) ∧
      (running [.select 6 5, .ident] .read).Settled ∧ (6 : Byte).toNat ≤ 6 ∧
      (5 : Word).toNat < [16, 11, 8, 64, 768, 48, 6].getD (6 : Byte).toNat 0 ∧
      (exOf [.select 6 5, .ident]).ops.tail ≠ [] ∧ (exOf [.select 6 5]).ops.tail = [] :=
  ⟨runs_first _ _ _, runs_first _ _ _, by decide, by decide, by decide, by decide, by decide⟩

/-- A failure of access, of an operand, of the reply's space, of a protected word and of a busy store. -/
theorem test_meets_FailedOperationEndsExecution :
    (running [.write [1]] .read).Fails (exOf [.write [1]]) (.write [1]) .denied ∧
      (running [.read 0] .read).Fails (exOf [.read 0]) (.read 0) .badOperand ∧
      (running [.read 33] .read).Fails (exOf [.read 33]) (.read 33) .badOperand ∧
      (running [.ident] .read).Fails { exOf [.ident] with results := List.replicate 76 0 } .ident .replyFull ∧
      (running [.captureTake] .full).Fails (exOf [.captureTake]) .captureTake .empty ∧
      (stored [.storeWrite] 0 0).Fails (exOf [.storeWrite]) .storeWrite .protectedWord ∧
      { running [.restart] .full with store := (working .erase 0).store }.Fails (exOf [.restart]) .restart .storeInUse ∧
      (running [.write [1]] .read).Settled := by
  have full : (stored [.storeWrite] 0 0).execAccess = .full := rfl
  have page : (stored [.storeWrite] 0 0).store.page = 0 := rfl
  have idle : (stored [.storeWrite] 0 0).store.busy = false := rfl
  have access : { running [.restart] .full with store := (working .erase 0).store }.execAccess = .full := rfl
  have erasing : { running [.restart] .full with store := (working .erase 0).store }.store.busy = true := rfl
  have take : (running [.captureTake] .full).execAccess = .full := rfl
  have none' : (running [.captureTake] .full).capture = [] := rfl
  refine ⟨?_, ?_, ?_, ?_, ?_, ?_, ?_, by decide⟩
  · simp [Gateway.Fails, Op.needsFull]
    decide
  · simp [Gateway.Fails, Op.needsFull]
  · simp [Gateway.Fails, Op.needsFull]
  · simp [Gateway.Fails, Op.needsFull, Execution.Room, exOf]
  · simp [Gateway.Fails, take, none']
  · simp [Gateway.Fails, full, page, idle]
  · simp only [Gateway.Fails, access, erasing]
    simp

/-- The window at the start of a table, a WRITE of one word running on it. -/
def writing (t : Table) (v : Word) : Gateway :=
  { running [.write [v], .ident] .full with windowTable := t, windowIndex := 0 }

/-- A WRITE whose one target the model finds neither protected nor out of range meets no check of R130. -/
theorem unguarded {g : Gateway} {t : Table} {v : Word} (h : g.protectedTarget t 0 v = false)
    (h' : targetInRange t 0 v = true) : ¬ g.GuardedWord t 0 v ∧ ¬ ValueRefused t 0 v := by
  have inside : 0 < t.size := by
    cases t <;> decide
  refine ⟨fun e => ?_, fun e => ?_⟩
  · rw [← protectedTarget_iff g t 0 v inside, h] at e
    exact Bool.noConfusion e
  · rw [← targetInRange_iff, h'] at e
    exact Bool.noConfusion e

theorem succeeds_write (t : Table) (v : Word)
    (h : (writing t v).protectedTarget t 0 v = false ∧ targetInRange t 0 v = true ∧
      (t = .route → routeWellFormed (writeRouteWords (writing t v).route [(0, v)]) = true)) :
    (writing t v).Succeeds (exOf [.write [v], .ident]) (.write [v]) := by
  refine ⟨⟨rfl, rfl, rfl⟩, ?_⟩
  have e : (writing t v).execAccess = .full := rfl
  have tb : (writing t v).windowTable = t := rfl
  have w : writeTargets t (writing t v).windowIndex [v] = [(0, v)] := by
    cases t <;> rfl
  have u := unguarded h.1 h.2.1
  intro st
  simp only [Gateway.Fails, e, tb, w]
  by_cases r : t = .route
  · simp [u.1, u.2, h.2.2 r]
  · simp [u.1, u.2, r]

theorem test_meets_WriteAppliesItsWords :
    (writing .group 7).Succeeds (exOf [.write [7], .ident]) (.write [7]) ∧
      (writing .general 7).Succeeds (exOf [.write [7], .ident]) (.write [7]) ∧
      (writing .meter 0x8001).Succeeds (exOf [.write [0x8001], .ident]) (.write [0x8001]) ∧
      (writing .route 0xC000).Succeeds (exOf [.write [0xC000], .ident]) (.write [0xC000]) ∧
      (writing .port 0x9201).Succeeds (exOf [.write [0x9201], .ident]) (.write [0x9201]) ∧
      (writing .group 7).Settled ∧ (exOf [.write [7], .ident]).ops.tail ≠ [] ∧
      (writing .group 7).group.length = 8 ∧ (writing .route 0xC000).route.length = 768 ∧
      (writing .meter 0x8001).meters.length = 16 ∧ (∀ m ∈ (writing .meter 0x8001).meters, m.Ok) ∧
      (writing .port 0x9201).portA.words.InRange ∧ (writing .port 0x9201).portB.words.InRange ∧
      (writing .port 0x9201).portA.words.modeOnline = (writing .port 0x9201).portA.online := by
  refine ⟨succeeds_write _ _ (by decide), succeeds_write _ _ (by decide), succeeds_write _ _ (by decide),
    succeeds_write _ _ (by decide +kernel), succeeds_write _ _ (by decide), ?_⟩
  (repeat' apply And.intro) <;> decide +kernel

/-- Port A OFFLINE, its word 0 about to be written. -/
def offlineA (v : Word) : Gateway :=
  { writing .port v with
    portA := { Port.reset .a with state := .offline, words := { PortWords.reset .a with control := 0x1200 } } }

theorem test_meets_PortModeWrites :
    (writing .port 0x1200).Succeeds (exOf [.write [0x1200], .ident]) (.write [0x1200]) ∧
      (writing .port 0x1200).portA.online = true ∧ (0x1200 : Word).getLsbD 15 = false ∧
      (writing .port 0x1200).Settled ∧ (writing .port 0x1200).windowTable = .port ∧
      (writing .port 0x1200).windowIndex = 0 ∧ (writing .port 0x1200).agentQueue.length ≤ 2 ∧
      (writing .port 0x1200).general.noticeEnable = false ∧ (writing .port 0x1200).general.poolPause = false ∧
      (offlineA 0x9200).portA.state = .offline ∧ (offlineA 0x9200).portA.QuietWhenOut ∧ (offlineA 0x9200).Settled ∧
      (0x9200 : Word).getLsbD 15 = true ∧ rateCode 0x9200 = rateCode (offlineA 0x9200).portA.words.control ∧
      rateCode 0xA200 ≠ rateCode (offlineA 0xA200).portA.words.control ∧
      (writing .port 0x1200).portB.words.modeOnline = (writing .port 0x1200).portB.online ∧
      (offlineA 0xA200).portB.words.modeOnline = (offlineA 0xA200).portB.online := by
  refine ⟨succeeds_write _ _ (by decide), ?_⟩
  (repeat' apply And.intro) <;> decide

/-- The WRITE of one word 0 completes as PORT_OFFLINE and as PORT_ONLINE (R21, R22). -/
theorem test_port_mode_commands :
    (after (.portOffline .a) (writing .port 0x1200)).portA.state = .offline ∧
      (after (.portOnline .a) (offlineA 0x9200)).portA.state = .linkDown := by decide +kernel

theorem test_meets_PortModeWrites_online :
    (offlineA 0xA200).Succeeds (exOf [.write [0xA200], .ident]) (.write [0xA200]) := by
  refine ⟨⟨rfl, rfl, rfl⟩, ?_⟩
  have e : (offlineA 0xA200).execAccess = .full := rfl
  have tb : (offlineA 0xA200).windowTable = .port := rfl
  have w : writeTargets .port (offlineA 0xA200).windowIndex [0xA200] = [(0, 0xA200)] := rfl
  have u : ¬ (offlineA 0xA200).GuardedWord .port 0 0xA200 ∧ ¬ ValueRefused .port 0 0xA200 :=
    unguarded (by decide) (by decide)
  intro st
  generalize (0xA200 : Word) = v at *
  simp [Gateway.Fails, e, tb, w, u.1, u.2]

theorem test_meets_BinsAndBlocksChange :
    (running [.groupSet 1 [63, 0], .ident] .full).Runs (exOf [.groupSet 1 [63, 0], .ident]) (.groupSet 1 [63, 0]) ∧
      (running [.groupClear 2 [64], .ident] .full).Runs (exOf [.groupClear 2 [64], .ident]) (.groupClear 2 [64]) ∧
      (running [.countersClear 3, .ident] .full).Runs (exOf [.countersClear 3, .ident]) (.countersClear 3) ∧
      (running [.groupSet 1 [63, 0], .ident] .full).Settled ∧
      (running [.groupSet 1 [63, 0], .ident] .full).execAccess = .full ∧
      (exOf [.groupSet 1 [63, 0], .ident]).ops.tail ≠ [] ∧
      (running [.groupSet 1 [63, 0], .ident] .full).group.length = 8 ∧
      (running [.countersClear 3, .ident] .full).counters.length = 48 ∧ (3 : Byte).toNat ≤ 3 :=
  ⟨runs_first _ _ _, runs_first _ _ _, runs_first _ _ _, by decide, by decide, by decide, by decide, by decide,
    by decide⟩

/-- The flagged part with notices on, its slot on the notice port full. -/
def noticing (port : PortState) : Gateway :=
  { flagged [.eventsMask 0xFFFF 0xFF7F, .ident] 0 with
    general := { General.reset with noticeControl := 0x8001, noticeTarget := 0x40 }
    portB := { busy (live .b) with state := port } }

theorem test_meets_ClearAndMaskMoveAlert :
    (flagged [.eventsClear 1 0xFFFF, .ident] 0x80).Succeeds (exOf [.eventsClear 1 0xFFFF, .ident])
        (.eventsClear 1 0xFFFF) ∧
      (flagged [.eventsClear 1 0xFFFF, .ident] 0x80).Settled ∧
      (flagged [.eventsClear 1 0xFFFF, .ident] 0x80).AlertOk ∧
      (flagged [.eventsMask 0xFFFF 0xFF7F, .ident] 0).Succeeds (exOf [.eventsMask 0xFFFF 0xFF7F, .ident])
        (.eventsMask 0xFFFF 0xFF7F) ∧
      (noticing .active).AlertOk ∧ (noticing .active).Settled ∧ (noticing .active).monitor.alert = false ∧
      (noticing .active).monitor.flags1 &&& ~~~ 0xFF7F ≠ 0 ∧ (noticing .active).general.noticeEnable = true ∧
      (noticing .active).general.noticePort = .b ∧ 1 ≤ (noticing .active).free ∧
      (noticing .active).portB.state = .active ∧ (noticing .active).portB.egressCount < 24 ∧
      (noticing .active).portB.slot ≠ .empty ∧ (noticing .active).general.poolPause = false ∧
      (noticing .linkDown).portB.state ≠ .active ∧ (noticing .linkDown).AlertOk := by
  have a : ∀ ops unmasked, (flagged ops unmasked).execAccess = .full := fun _ _ => rfl
  refine ⟨⟨⟨rfl, rfl, rfl⟩, ?_⟩, by decide, by decide, ⟨⟨rfl, rfl, rfl⟩, ?_⟩, by decide⟩ <;>
    intro st <;>
    simp [Gateway.Fails, a]

theorem test_meets_CaptureTakeGivesOldest :
    (captured [.captureTake, .ident]).Succeeds (exOf [.captureTake, .ident]) .captureTake ∧
      (captured [.captureTake, .ident]).Settled ∧ (exOf [.captureTake, .ident]).ops.tail ≠ [] ∧
      (captured [.captureTake, .ident]).capture =
        ⟨{ data with tag := some 0x0A0B0C0D }, .b, .claimed, false⟩ :: [] ∧
      (captured [.captureTake, .ident]).general.noticeEnable = false := by
  have a : (captured [.captureTake, .ident]).execAccess = .full := rfl
  have c : (captured [.captureTake, .ident]).capture =
      [⟨{ data with tag := some 0x0A0B0C0D }, .b, .claimed, false⟩] := rfl
  refine ⟨⟨⟨rfl, rfl, rfl⟩, ?_⟩, by decide, by decide, by decide, by decide⟩
  intro st
  simp [Gateway.Fails, a, c, Execution.Room, exOf]

/-- The first operation of `stored` succeeds when no check of its rule fails. -/
theorem succeeds_stored {op : Op} {ops : List Op} {page word : Nat}
    (h : ∀ st, ¬ (stored (op :: ops) page word).Fails (exOf (op :: ops)) op st) :
    (stored (op :: ops) page word).Succeeds (exOf (op :: ops)) op :=
  ⟨⟨rfl, rfl, rfl⟩, h⟩

theorem test_meets_StoreBufferOperations :
    (stored [.storeSelect 63 15, .ident] 5 14).Succeeds (exOf [.storeSelect 63 15, .ident]) (.storeSelect 63 15) ∧
      (stored [.storeRead 16, .ident] 5 14).Succeeds (exOf [.storeRead 16, .ident]) (.storeRead 16) ∧
      (stored [.storeFill [1, 2, 3], .ident] 5 14).Succeeds (exOf [.storeFill [1, 2, 3], .ident])
        (.storeFill [1, 2, 3]) ∧
      (stored [.storeStage, .ident] 55 0).Succeeds (exOf [.storeStage, .ident]) .storeStage ∧
      (stored [.storeStage, .ident] 55 0).Settled ∧ (stored [.storeStage, .ident] 55 14).store.word < 16 ∧
      (stored [.storeStage, .ident] 55 14).store.buffer.length = 16 ∧
      (exOf [.storeRead 16, .ident]).taken.length < 16 := by
  have a : ∀ ops page word, (stored ops page word).execAccess = .full := fun _ _ _ => rfl
  have b : ∀ ops page word, (stored ops page word).store.busy = false := fun _ _ _ => rfl
  have n : ∀ ops page word, (stored ops page word).store.page = page := fun _ _ _ => rfl
  have w : ∀ ops page word, (stored ops page word).store.word = word := fun _ _ _ => rfl
  refine ⟨succeeds_stored ?_, succeeds_stored ?_, succeeds_stored ?_, succeeds_stored ?_, by decide⟩ <;>
    intro st <;>
    simp [Gateway.Fails, Op.needsFull, a, b, n, w, Execution.Room, exOf, Gateway.storeTotal]

theorem test_meets_StoreOperationsStart :
    (stored [.storeErase, .ident] 5 0).Succeeds (exOf [.storeErase, .ident]) .storeErase ∧
      (stored [.storeWrite, .ident] 5 0).Succeeds (exOf [.storeWrite, .ident]) .storeWrite ∧
      (stored [.storeStatus, .ident] 63 15).Succeeds (exOf [.storeStatus, .ident]) .storeStatus ∧
      (stored [.storeErase, .ident] 5 0).Settled ∧ (stored [.storeErase, .ident] 5 0).general.noticeEnable = false ∧
      (stored [.storeStatus, .ident] 63 15).store.page < 64 ∧ (stored [.storeStatus, .ident] 63 15).store.word < 16 ∧
      (stored [.storeStatus, .ident] 63 15).store.last = none := by
  have a : ∀ ops page word, (stored ops page word).execAccess = .full := fun _ _ _ => rfl
  have b : ∀ ops page word, (stored ops page word).store.busy = false := fun _ _ _ => rfl
  have n : ∀ ops page word, (stored ops page word).store.page = page := fun _ _ _ => rfl
  have e : ∀ ops word, ((stored ops 5 word).store.pageAt 5).state = .erased := fun _ _ => rfl
  refine ⟨succeeds_stored ?_, succeeds_stored ?_, succeeds_stored ?_, by decide⟩ <;>
    intro st <;>
    simp [Gateway.Fails, Op.needsFull, a, b, n, e, Execution.Room, exOf]

theorem test_meets_StoreCompletions :
    (working .erase 20).Settled ∧ (working .erase 20).general.noticeEnable = false ∧
      (working .erase 20).store.state = .sErasing ∧ 20 ≤ (working .erase 20).store.timer ∧
      (working .write 12).store.state = .sWriting ∧ 12 ≤ (working .write 12).store.timer ∧
      ¬ 12 ≤ (working .write 11).store.timer ∧ (working .erase 20).store.page < (working .erase 20).store.pages.length := by
  decide

/-- The executing request's port not ONLINE. -/
def gone : Gateway :=
  { running [.restart] .full with portA := { Port.reset .a with state := .offline }, free := 30 }

theorem test_meets_RestartPends :
    (running [.restart, .ident] .full).Succeeds (exOf [.restart, .ident]) .restart ∧
      (running [.restart, .ident] .full).Settled ∧
      (running [.restart, .ident] .full).executing =
        some ⟨⟨request [], .a, .request, false⟩, .one, .full, .executing, false⟩ ∧
      gone.Succeeds (exOf [.restart]) .restart ∧ gone.Settled ∧ gone.portA.online = false ∧
      gone.general.noticeEnable = false := by
  have a : (running [.restart, .ident] .full).execAccess = .full := rfl
  have b : (running [.restart, .ident] .full).store.busy = false := rfl
  have a' : gone.execAccess = .full := rfl
  have b' : gone.store.busy = false := rfl
  refine ⟨⟨⟨rfl, rfl, rfl⟩, ?_⟩, by decide, by decide, ⟨⟨rfl, rfl, rfl⟩, ?_⟩, by decide, by decide, by decide⟩ <;>
    intro st <;>
    simp [Gateway.Fails, a, b, a', b']

/-- A state that meets every invariant is followed by one that is a next state. -/
theorem test_meets_invariants :
    Gateway.reset.PoolOk ∧ Gateway.reset.AgentOk ∧ Gateway.reset.AlertOk ∧ Gateway.reset.FlagsOk ∧
      Gateway.reset.LevelsOk ∧ Gateway.reset.portA.Ok ∧ Gateway.reset.portB.Ok ∧ Gateway.reset.PhaseOk ∧
      Gateway.reset.TablesOk ∧ Gateway.reset.Settled ∧ Gateway.reset.MetersOk ∧ Gateway.reset.RouteOk ∧
      Gateway.reset.StoreOk ∧
      step ⟨[.tick], Gateway.reset⟩ = .next ⟨[], Gateway.reset⟩ := by
  have ok : ∀ p : PortId, (Port.reset p).Ok := fun p =>
    ⟨by cases p <;> decide, fun _ => ⟨rfl, rfl⟩, fun h => absurd rfl h, by cases p <;> decide, by cases p <;> decide,
      fun h => absurd rfl h, by cases p <;> decide, nofun, nofun, Nat.zero_le _⟩
  refine ⟨by decide, by decide, by decide, by decide, by decide, ok .a, ok .b, ?_, by decide, by decide, by decide,
    ⟨by decide +kernel, nofun⟩, ⟨?_, nofun, fun _ => rfl⟩, rfl⟩
  · exact ⟨by decide, by decide, by decide⟩
  · exact ⟨by decide, by decide, by decide, by decide, by decide, by decide, nofun, nofun⟩

end Sys2Proof.Machine.Slice0
end

section
/-! SUPPORT. The six conditions of a route entry (R74) as the manual words them, and the record a winner fills. -/

open Sys2Proof

namespace Sys2Proof.Machine

/-! ## The six conditions of R74 -/

theorem field_two_lt (w : Word) (low : Nat) : field w low 2 < 4 := Nat.mod_lt _ (by decide)

theorem entryIngressOk_iff (w0 : Word) (p : PortId) :
    entryIngressOk w0 p = true ↔ field w0 13 2 = 2 ∨ field w0 13 2 = if p = .a then 0 else 1 := by
  have code := field_two_lt w0 13
  unfold entryIngressOk
  generalize field w0 13 2 = c at code ⊢
  interval_cases c <;> cases p <;> decide

theorem maskedEq_iff (value mask w : Word) : maskedEq value mask w = true ↔ w &&& mask = value &&& mask := by
  simp [maskedEq]

/-- A comparison that its entry leaves out holds of every frame (R70, R74). -/
theorem absent_or_maskedEq_iff (present : Bool) (value mask w : Word) :
    (!present || maskedEq value mask w) = true ↔ present = false ∨ w &&& mask = value &&& mask := by
  simp [maskedEq]

theorem entryTagOk_iff (w0 : Word) (tag : Option (BitVec 32)) :
    entryTagOk w0 tag.isSome = true ↔
      field w0 5 2 = 0 ∨ (field w0 5 2 = 1 ∧ tag.isSome = true) ∨ (field w0 5 2 = 2 ∧ tag = none) := by
  have code := field_two_lt w0 5
  unfold entryTagOk
  generalize field w0 5 2 = c at code ⊢
  interval_cases c <;> cases tag <;> simp

/-- The six conditions of R74 on a frame received on port `p`, by the entry's words as R188 lays them out. -/
def MeetsConditions (w : Nat → Word) (p : PortId) (f : Frame) : Prop :=
  (w 0).getLsbD 15 = true ∧ (field (w 0) 13 2 = 2 ∨ field (w 0) 13 2 = if p = .a then 0 else 1) ∧
    f.dest &&& w 2 = w 1 &&& w 2 ∧ ((w 0).getLsbD 8 = false ∨ f.src &&& w 4 = w 3 &&& w 4) ∧
    ((w 0).getLsbD 7 = false ∨ f.service &&& w 6 = w 5 &&& w 6) ∧
    (field (w 0) 5 2 = 0 ∨ (field (w 0) 5 2 = 1 ∧ f.tag.isSome = true) ∨ (field (w 0) 5 2 = 2 ∧ f.tag = none))

theorem entryMatches_iff (route : List Word) (p : PortId) (f : Frame) (e : Nat) :
    entryMatches route p f e = true ↔ MeetsConditions (routeWord route e) p f := by
  simp only [entryMatches, MeetsConditions, Bool.and_eq_true, entryIngressOk_iff, maskedEq_iff,
    absent_or_maskedEq_iff, entryTagOk_iff, entryValid, entrySourceMatch, entryServiceMatch, and_assoc]

/-! ## The search of R74 -/

theorem lookup_eq_some_iff (route : List Word) (p : PortId) (f : Frame) (e : Nat) :
    lookup route p f = some e ↔ e < 64 ∧ MeetsConditions (routeWord route e) p f ∧
      ∀ i < e, ¬ MeetsConditions (routeWord route i) p f := by
  simp [lookup, List.find?_range_eq_some, ← entryMatches_iff, and_left_comm]

theorem lookup_eq_none_iff (route : List Word) (p : PortId) (f : Frame) :
    lookup route p f = none ↔ ∀ e < 64, ¬ MeetsConditions (routeWord route e) p f := by
  simp [lookup, ← entryMatches_iff]

/-! ## The record (R74, R76) -/

/-- The action each code of a well-formed entry names (R71, R188). -/
theorem entryAction_of_code (w0 : Word) :
    (field w0 10 3 = 0 → entryAction w0 = .forward) ∧ (field w0 10 3 = 1 → entryAction w0 = .refuse) ∧
      (field w0 10 3 = 2 → entryAction w0 = .ignore) ∧ (field w0 10 3 = 3 → entryAction w0 = .divert) := by
  refine ⟨fun code => ?_, fun code => ?_, fun code => ?_, fun code => ?_⟩ <;> simp [entryAction, code]

/-- The tag operation each code of a well-formed entry names (R71, R188). -/
theorem entryTagOp_of_code (w0 : Word) :
    (field w0 3 2 = 0 → entryTagOp w0 = .none) ∧ (field w0 3 2 = 1 → entryTagOp w0 = .insert) ∧
      (field w0 3 2 = 2 → entryTagOp w0 = .strip) := by
  refine ⟨fun code => ?_, fun code => ?_, fun code => ?_⟩ <;> simp [entryTagOp, code]

theorem ofEntry_queue_of_forward {route : List Word} {e : Nat} (access : Access) (f : Frame)
    (forward : entryAction (routeWord route e 0) = .forward) :
    (DecisionRecord.ofEntry route e access f).queue = some (entryQueue (routeWord route e 0)) :=
  if_pos forward

theorem ofEntry_tagValue_of_insert {route : List Word} {e : Nat} (access : Access) (f : Frame)
    (insert : entryTagOp (routeWord route e 0) = .insert) :
    (DecisionRecord.ofEntry route e access f).tagValue = routeWord route e 8 ++ routeWord route e 9 :=
  if_pos insert

theorem routeRecord_of_winner {g : Gateway} {p : PortId} {f : Frame} {e : Nat} (h : lookup g.route p f = some e) :
    g.routeRecord p f = .ofEntry g.route e (g.port p).words.access f := by
  simp [Gateway.routeRecord, h]

theorem routeRecord_of_noWinner {g : Gateway} {p : PortId} {f : Frame} (h : lookup g.route p f = none) :
    g.routeRecord p f = .ofDefault (g.port p).words.defaultAction (g.port p).words.access f := by
  simp [Gateway.routeRecord, h]

/-- Settles O23, by the entry conditions one by one, the search over the 64 indices, and the record of either end. -/
theorem lookupTakesLowestMatch : Obligations.LookupTakesLowestMatch := by
  intro g p f w wins r
  refine ⟨lookup_eq_some_iff g.route p f, lookup_eq_none_iff g.route p f, fun e winner => ?_, fun noWinner => ?_⟩
  · have filled : r = .ofEntry g.route e (g.port p).words.access f := routeRecord_of_winner winner
    obtain ⟨forward, refuse, ignore, divert⟩ := entryAction_of_code (w e 0)
    obtain ⟨keep, insert, strip⟩ := entryTagOp_of_code (w e 0)
    rw [filled]
    exact ⟨rfl, rfl, fun code => ⟨congrArg some (forward code), ofEntry_queue_of_forward _ f (forward code)⟩,
      fun code => congrArg some (refuse code), fun code => congrArg some (ignore code),
      fun code => congrArg some (divert code), rfl, keep,
      fun code => ⟨insert code, ofEntry_tagValue_of_insert _ f (insert code)⟩, strip, rfl, rfl⟩
  · have filled : r = .ofDefault (g.port p).words.defaultAction (g.port p).words.access f :=
      routeRecord_of_noWinner noWinner
    rw [filled]
    exact ⟨rfl, rfl, rfl, rfl, rfl, rfl, fun forward => if_pos forward⟩

end Sys2Proof.Machine
end

section
/-! SUPPORT. Egress selection where every head is younger than the age limit: it only fills transmit slots, and
leaves the receive side of both ports alone. -/

open Sys2Proof

namespace Sys2Proof.Machine

/-! ## Ports whose selection would discard no old frame -/

/-- A selection of this port would meet no old frame (R58, R60). -/
def Port.NothingAged (q : Port) : Prop :=
  q.state = .active → q.slot = .empty → q.pause = .running → ∀ e ∈ q.urgent ++ q.normal, q.isOld e = false

/-- What a notice, a PAUSE ask and the load of a transmit slot do to a port: its state and its receive side are as
they were, and a selection that would have met no old frame still meets none. -/
structure Port.SendsOnly (q q' : Port) : Prop where
  state : q'.state = q.state
  rx : q'.rx = q.rx
  role : q'.role = q.role
  staging : q'.staging = q.staging
  record : q'.record = q.record
  nothingAged : q.NothingAged → q'.NothingAged

theorem Port.SendsOnly.refl (q : Port) : q.SendsOnly q := ⟨rfl, rfl, rfl, rfl, rfl, id⟩

theorem Port.SendsOnly.trans {q r t : Port} (a : q.SendsOnly r) (b : r.SendsOnly t) : q.SendsOnly t :=
  ⟨b.state.trans a.state, b.rx.trans a.rx, b.role.trans a.role, b.staging.trans a.staging, b.record.trans a.record,
    b.nothingAged ∘ a.nothingAged⟩

/-- A port with nothing to select has nothing old to select. -/
theorem Port.Settled.nothingAged {q : Port} (h : q.Settled) : q.NothingAged := by
  intro active empty running
  obtain ⟨urgent, normal⟩ := (h active empty).2 running
  simp [urgent, normal]

/-- A frame that has just joined a queue has age 0, and no age limit makes it old (R54, R55, R60). -/
theorem isOld_of_age_zero (q : Port) (b : PoolBuffer) : q.isOld ⟨b, 0⟩ = false := by
  simp [Port.isOld]

theorem enqueue_sendsOnly (q : Port) (name : QueueName) (b : PoolBuffer) : q.SendsOnly (q.enqueue name b) := by
  have young := isOld_of_age_zero q b
  cases name
  case urgent =>
    refine ⟨rfl, rfl, rfl, rfl, rfl, fun h active empty running e he => ?_⟩
    have old := h active empty running e
    simp only [Port.enqueue, List.mem_append, List.mem_singleton] at he old
    rcases he with (he | rfl) | he
    · exact old (.inl he)
    · exact young
    · exact old (.inr he)
  case normal =>
    refine ⟨rfl, rfl, rfl, rfl, rfl, fun h active empty running e he => ?_⟩
    have old := h active empty running e
    simp only [Port.enqueue, List.mem_append, List.mem_singleton] at he old
    rcases he with he | he | rfl
    · exact old (.inl he)
    · exact old (.inr he)
    · exact young

theorem pauseAsk_sendsOnly (q : Port) : q.SendsOnly q.pauseAsk := by
  unfold Port.pauseAsk
  repeat' split
  · exact .refl q
  · exact ⟨rfl, rfl, rfl, rfl, rfl, id⟩
  · exact ⟨rfl, rfl, rfl, rfl, rfl, id⟩
  · exact .refl q

/-- A port with a frame in its slot makes no selection (R57). -/
theorem loadSlot_nothingAged (q : Port) {s : TxSlot} (h : s ≠ .empty) : (q.loadSlot s).NothingAged :=
  fun _ empty => absurd empty h

/-- Taking a queue's head leaves all but the queues (R58). -/
theorem head_loadSlot_sendsOnly {q r : Port} {e : QueueEntry} (h : q.head = some (e, r)) :
    q.SendsOnly (r.loadSlot (.pool e.buf)) := by
  unfold Port.head at h
  split at h <;> cases h
  all_goals exact ⟨rfl, rfl, rfl, rfl, rfl, fun _ => loadSlot_nothingAged _ (by simp)⟩

theorem head_mem {q r : Port} {e : QueueEntry} (h : q.head = some (e, r)) : e ∈ q.urgent ++ q.normal := by
  unfold Port.head at h
  split at h <;> cases h
  all_goals simp_all

/-! ## The same of both ports of the part -/

/-- Both ports' receive sides are left alone. -/
def Gateway.SendsOnly (g t : Gateway) : Prop :=
  ∀ x, (g.port x).SendsOnly (t.port x)

/-- Neither port's selection would meet an old frame. -/
def Gateway.NothingAged (g : Gateway) : Prop :=
  ∀ x, (g.port x).NothingAged

theorem Gateway.SendsOnly.refl (g : Gateway) : g.SendsOnly g := fun x => .refl (g.port x)

theorem Gateway.SendsOnly.trans {g h t : Gateway} (a : g.SendsOnly h) (b : h.SendsOnly t) : g.SendsOnly t :=
  fun x => (a x).trans (b x)

theorem Gateway.SendsOnly.keeps_nothingAged {g t : Gateway} (h : g.SendsOnly t) (young : g.NothingAged) :
    t.NothingAged :=
  fun x => (h x).nothingAged (young x)

theorem sendsOnly_of_ports_eq {g t : Gateway} (a : t.portA = g.portA) (b : t.portB = g.portB) : g.SendsOnly t := by
  rintro (_ | _)
  · simpa [a] using Port.SendsOnly.refl g.portA
  · simpa [b] using Port.SendsOnly.refl g.portB

theorem setPort_sendsOnly (g : Gateway) (p : PortId) (q : Port) (h : (g.port p).SendsOnly q) :
    g.SendsOnly (g.setPort p q) := by
  intro x
  rcases PortId.eq_or_other p x with rfl | rfl
  · simpa using h
  · simpa using Port.SendsOnly.refl (g.port p.other)

theorem modPort_sendsOnly (g : Gateway) (p : PortId) (f : Port → Port) (h : (g.port p).SendsOnly (f (g.port p))) :
    g.SendsOnly (g.modPort p f) :=
  setPort_sendsOnly g p _ h

theorem poolEval_sendsOnly (g : Gateway) : g.SendsOnly g.poolEval := by
  have level : g.SendsOnly (g.handLevel .poolLow g.poolLow) := sendsOnly_of_ports_eq rfl rfl
  unfold Gateway.poolEval
  dsimp only
  split
  · exact (level.trans (modPort_sendsOnly _ .a _ (pauseAsk_sendsOnly _))).trans
      (modPort_sendsOnly _ .b _ (pauseAsk_sendsOnly _))
  · exact level

theorem noticeAsk_sendsOnly (g : Gateway) : g.SendsOnly g.noticeAsk := by
  unfold Gateway.noticeAsk
  dsimp only
  repeat' split
  · exact .refl g
  · have taken : g.SendsOnly { g with free := g.free - 1 } := sendsOnly_of_ports_eq rfl rfl
    exact (taken.trans (modPort_sendsOnly _ _ _ (enqueue_sendsOnly _ _ _))).trans (poolEval_sendsOnly _)
  · exact sendsOnly_of_ports_eq rfl rfl

theorem alertEval_sendsOnly (g : Gateway) : g.SendsOnly g.alertEval := by
  have pin : g.SendsOnly { g with monitor := { g.monitor with alert := g.asserts } } := sendsOnly_of_ports_eq rfl rfl
  unfold Gateway.alertEval
  dsimp only
  split
  · exact pin.trans (noticeAsk_sendsOnly _)
  · exact pin

/-- A flag that latches, with the notice it may ask for, leaves the receive sides alone (R170, R177). -/
theorem latch_sendsOnly (g : Gateway) (src : Source) : g.SendsOnly (g.latch src) :=
  Gateway.SendsOnly.trans (sendsOnly_of_ports_eq rfl rfl) (alertEval_sendsOnly (g.setFlag src))

/-! ## Selections that discard nothing -/

/-- With no old frame queued, the first head of URGENT and then NORMAL goes to the slot (R58, R59). -/
theorem selectFrame_of_noneOld (fuel : Nat) (p : PortId) (g : Gateway)
    (young : ∀ e ∈ (g.port p).urgent ++ (g.port p).normal, (g.port p).isOld e = false) :
    Gateway.selectFrame fuel p g = g ∨
      ∃ e q, (g.port p).head = some (e, q) ∧
        Gateway.selectFrame fuel p g = g.setPort p (q.loadSlot (.pool e.buf)) := by
  cases fuel with
  | zero => exact .inl rfl
  | succ fuel =>
    unfold Gateway.selectFrame
    cases head : (g.port p).head with
    | none => exact .inl rfl
    | some eq =>
      obtain ⟨e, q⟩ := eq
      exact .inr ⟨e, q, rfl, by simp [young e (head_mem head)]⟩

theorem takePause_sendsOnly (g : Gateway) (p : PortId) : g.SendsOnly (g.takePause p) := by
  unfold Gateway.takePause
  dsimp only
  split
  · split
    · exact setPort_sendsOnly g p _ ⟨rfl, rfl, rfl, rfl, rfl, id⟩
    · exact setPort_sendsOnly g p _ ⟨rfl, rfl, rfl, rfl, rfl, fun _ => loadSlot_nothingAged _ (by simp)⟩
  · exact .refl g

/-- A selection that meets no old frame fills its port's slot at most (R57 to R59). -/
theorem selectEgress_of_nothingAged (g : Gateway) (p : PortId) (young : g.NothingAged) :
    AllBut [portPart p] g (g.selectEgress p) ∧ g.SendsOnly (g.selectEgress p) := by
  have paused := takePause_sendsOnly g p
  have pausedAllBut := takePause_allBut g p
  unfold Gateway.selectEgress
  dsimp only
  split
  · rename_i mayTake
    split
    · rename_i mayQueue
      have active : ((g.takePause p).port p).state = .active := (paused p).state.trans mayTake.1
      have noneOld := paused.keeps_nothingAged young p active mayQueue.1 mayQueue.2
      rcases selectFrame_of_noneOld (((g.takePause p).port p).urgent.length +
          ((g.takePause p).port p).normal.length + 2) p _ noneOld with same | ⟨e, q, head, loaded⟩
      · rw [same]
        exact ⟨pausedAllBut, paused⟩
      · rw [loaded]
        exact ⟨pausedAllBut.trans (setPort_allBut _ p _),
          paused.trans (setPort_sendsOnly _ p _ (head_loadSlot_sendsOnly head))⟩
    · exact ⟨pausedAllBut, paused⟩
  · exact ⟨.refl _ g, .refl g⟩

/-- The selections at the end of an event that meet no old frame fill transmit slots and change nothing else. -/
theorem settle_of_nothingAged (g : Gateway) (young : g.NothingAged) :
    AllBut [.portA, .portB] g g.settle ∧ g.SendsOnly g.settle := by
  have select : ∀ (h : Gateway) (p : PortId), AllBut [.portA, .portB] g h ∧ g.SendsOnly h →
      AllBut [.portA, .portB] g (h.selectEgress p) ∧ g.SendsOnly (h.selectEgress p) := by
    rintro h p ⟨others, sends⟩
    obtain ⟨othersNow, sendsNow⟩ := selectEgress_of_nothingAged h p (sends.keeps_nothingAged young)
    exact ⟨others.trans (othersNow.mono (by simpa using portPart_mem p)), sends.trans sendsNow⟩
  exact select _ .b (select _ .a (select _ .b (select _ .a ⟨.refl _ g, .refl g⟩)))

/-! ## A latched flag stays latched (R170) -/

/-- Flags added to a word leave a set one set. -/
theorem or_and_of_and (flags more mask : Word) (h : flags &&& mask = mask) : (flags ||| more) &&& mask = mask := by
  ext i hi
  have set := congrArg (fun w : Word => w.getLsbD i) h
  simp at set ⊢
  grind

theorem Latched.setFlag {src : Source} {g : Gateway} (h : Latched src g) (other : Source) :
    Latched src (g.setFlag other) :=
  ⟨or_and_of_and _ _ _ h.1, or_and_of_and _ _ _ h.2⟩

theorem Latched.of_monitor_eq {src : Source} {g t : Gateway} (h : Latched src g) (e : t.monitor = g.monitor) :
    Latched src t := by
  simpa only [Latched, e] using h

theorem Latched.handLevel {src : Source} {g : Gateway} (h : Latched src g) (c : Level) (v : Bool) :
    Latched src (g.handLevel c v) := by
  simp only [Latched, Gateway.monitor_handLevel, Monitor.handLevel]
  repeat' split
  · exact h
  · exact h.setFlag c.source
  · exact h

theorem Latched.noticeAsk {src : Source} {g : Gateway} (h : Latched src g) : Latched src g.noticeAsk := by
  unfold Gateway.noticeAsk
  dsimp only
  repeat' split
  · exact h
  · refine Latched.of_monitor_eq (Latched.handLevel (Latched.of_monitor_eq h ?_) _ _) (poolEval_monitor _)
    simp
  · exact h.setFlag _

theorem Latched.alertEval {src : Source} {g : Gateway} (h : Latched src g) : Latched src g.alertEval := by
  unfold Gateway.alertEval
  dsimp only
  split
  · exact Latched.noticeAsk h
  · exact h

/-- An occurrence handed to the Event Monitor is latched after the event (R170). -/
theorem latch_latched (g : Gateway) (src : Source) : Latched src (g.latch src) :=
  have flag (flags mask : Word) : (flags ||| mask) &&& mask = mask := by
    rw [BitVec.or_comm, or_and_of_and _ _ _ BitVec.and_self]
  Latched.alertEval (g := g.setFlag src) ⟨flag _ _, flag _ _⟩

/-! ## The expiry of a hold (R89) -/

/-- The expiry of a hold, before the selections of the event: NAK-BUSY, counted, and HOLD_EXPIRED reported (R89). -/
def Gateway.expireHold (g : Gateway) (p : PortId) (r : DecisionRecord) : Gateway :=
  (g.answerNak p r .nakBusy).latch (.holdExpired p)

theorem holdExpiry_of_holding {g : Gateway} {p : PortId} {r : DecisionRecord} (holds : (g.port p).isHolding = true)
    (record : (g.port p).record = some r) : g.holdExpiry p = (g.expireHold p r).settle := by
  unfold Gateway.holdExpiry
  unfold Port.isHolding at holds
  split at holds
  · rename_i role
    simp only [role, record]
    rfl
  · contradiction
  · contradiction

theorem exec_holdExpiry (p : PortId) (s : State) :
    exec (.holdExpiry p) s = .next ⟨s.pending, s.gw.holdExpiry p⟩ := rfl

theorem exec_endDelimiter (p : PortId) (s : State) :
    exec (.endDelimiter p) s = .next ⟨s.pending, s.gw.endDelimiter p⟩ := rfl

/-- A NAK gives the selections nothing to take (R26, R57). -/
theorem answerNak_nothingAged {g : Gateway} (h : g.Settled) (p : PortId) (r : DecisionRecord) (resp : Response) :
    (g.answerNak p r resp).NothingAged := by
  have settled : ∀ x, (g.port x).NothingAged := by
    rintro (_ | _)
    · exact h.1.nothingAged
    · exact h.2.nothingAged
  intro x
  rcases PortId.eq_or_other p x with rfl | rfl
  · rw [answerNak_port]
    exact settled x
  · have same : (g.answerNak p r resp).port p.other = g.port p.other := by
      cases p <;> simp [Gateway.answerNak, Gateway.modPort]
    rw [same]
    exact settled p.other

theorem answerNak_counted (g : Gateway) (p : PortId) (r : DecisionRecord) (resp : Response) :
    Counted (portCounterIndex p resp.counter) g (g.answerNak p r resp) := by
  simp [Counted, Gateway.answerNak, Gateway.count, Gateway.bump]

theorem Counted.of_counters_eq {i : Nat} {g h t : Gateway} (counted : Counted i g h) (e : t.counters = h.counters) :
    Counted i g t :=
  e.trans counted

/-- The slot of an ACTIVE port whose NAK stands in a record of another path than PAUSE ends at the delimiter, and
drops the frame (R24, R26). -/
theorem endDelimiter_of_answered {g : Gateway} {p : PortId} {resp : Response} {r : DecisionRecord}
    (active : (g.port p).state = .active) (slot : (g.port p).rx = .rSlot) (role : (g.port p).role = .answered resp)
    (record : (g.port p).record = some r) (path : r.path ≠ .pause) :
    g.endDelimiter p = g.modPort p Port.endSlot := by
  have ends : (g.port p).slotEnds = true := by
    simp [Port.slotEnds, Port.follows, Port.isHolding, active, slot, role]
  have noPause : (g.port p).pauseFrame = none := by
    unfold Port.pauseFrame
    split
    · rename_i st r' _ record'
      obtain rfl : r = r' := by simpa [record] using record'
      simp [path]
    · rfl
  simp [Gateway.endDelimiter, ends, noPause]

/-- So it does in one command, which changes that port alone (R24, R26). -/
theorem exec_endDelimiter_of_answered {t : State} {p : PortId} {resp : Response} {r : DecisionRecord}
    (active : (t.gw.port p).state = .active) (slot : (t.gw.port p).rx = .rSlot)
    (role : (t.gw.port p).role = .answered resp) (record : (t.gw.port p).record = some r) (path : r.path ≠ .pause) :
    ∃ u, exec (.endDelimiter p) t = .next u ∧ AllBut [portPart p] t.gw u.gw ∧
      (u.gw.port p).staging = none ∧ (u.gw.port p).role = .nonClaimant ∧ (u.gw.port p).rx = .rIdle := by
  refine ⟨⟨t.pending, t.gw.modPort p Port.endSlot⟩, ?_, modPort_allBut t.gw p Port.endSlot, ?_⟩
  · rw [exec_endDelimiter, endDelimiter_of_answered active slot role record path]
  · simp [Port.endSlot]

/-- What the expiry of a hold does, with the notice and the selections that follow in its event (R89, R57, R177). -/
theorem expireHold_settle (g : Gateway) (p : PortId) (r : DecisionRecord) (h : g.Settled) :
    AllBut (.counters :: latchParts) g (g.expireHold p r).settle ∧
      Counted (portCounterIndex p .busy) g (g.expireHold p r).settle ∧
      Latched (.holdExpired p) (g.expireHold p r).settle ∧
      (g.answerNak p r .nakBusy).SendsOnly (g.expireHold p r).settle := by
  have reports := latch_sendsOnly (g.answerNak p r .nakBusy) (.holdExpired p)
  have reported := latch_allBut (g.answerNak p r .nakBusy) (.holdExpired p)
  obtain ⟨selected, selects⟩ :=
    settle_of_nothingAged (g.expireHold p r) (reports.keeps_nothingAged (answerNak_nothingAged h p r .nakBusy))
  refine ⟨?_, ?_, ?_, reports.trans selects⟩
  · have answered : AllBut (.counters :: latchParts) g (g.answerNak p r .nakBusy) :=
      (answerNak_allBut g p r _).mono (by cases p <;> simp [portPart, latchParts])
    exact (answered.trans (reported.mono fun _ => List.mem_cons_of_mem _)).trans (selected.mono (by simp [latchParts]))
  · exact ((answerNak_counted g p r .nakBusy).of_counters_eq (reported .counters (by simp [latchParts]))).of_counters_eq
      (selected .counters (by simp))
  · exact (latch_latched _ _).of_monitor_eq (selected .monitor (by simp))

/-- The same of the command: the queue stays, and of the ports only the sending sides go on from the NAK (R89). -/
theorem exec_holdExpiry_of_holding {s : State} {p : PortId} {r : DecisionRecord}
    (holds : (s.gw.port p).isHolding = true) (record : (s.gw.port p).record = some r) (settled : s.gw.Settled) :
    ∃ t, exec (.holdExpiry p) s = .next t ∧ t.pending = s.pending ∧ AllBut (.counters :: latchParts) s.gw t.gw ∧
      Counted (portCounterIndex p .busy) s.gw t.gw ∧ Latched (.holdExpired p) t.gw ∧
      (s.gw.answerNak p r .nakBusy).SendsOnly t.gw := by
  have outcome := expireHold_settle s.gw p r settled
  rw [← holdExpiry_of_holding holds record] at outcome
  exact ⟨⟨s.pending, s.gw.holdExpiry p⟩, exec_holdExpiry p s, rfl, outcome⟩

/-- Settles O34, by what a NAK and a report leave: after the expiry's own changes, neither the notice that HOLD_EXPIRED
may ask for nor the selections that follow discard a frame or touch a receive side, so the port stands at its NAK-BUSY
until the delimiter. -/
theorem holdExpiryAnswersBusy : Obligations.HoldExpiryAnswersBusy := by
  intro s p r holds record settled
  obtain ⟨t, next, pending, others, counted, latched, sends⟩ := exec_holdExpiry_of_holding holds record settled
  obtain ⟨state, rx, role, staging, kept, -⟩ := sends p
  rw [answerNak_port] at state rx role staging kept
  exact ⟨t, next, pending, others, counted, latched, role, by rw [role]; rfl, staging, kept, fun active slot path =>
    exec_endDelimiter_of_answered (state.trans active) (rx.trans slot) role kept path⟩

end Sys2Proof.Machine
end

section
/-! SUPPORT. What a command does to the part, said once: the effect of each command as a function of the part, the
inversion of a step, and what an operation of the agent can do. -/

open Sys2Proof

namespace Sys2Proof.Machine

/-! ## The effect of a command -/

/-- The part after a command (R159 to R166, R24 to R41, R119 to R155). -/
def effect : Instr → Gateway → Gateway
  | .powerOnReset => .resetBy .power
  | .lineReset => .resetBy .line
  | .resetRelease => .resetRelease
  | .bootPageLoad => .bootPageLoad
  | .bootLoadEnd => .bootLoadEnd
  | .requestReset => .requestReset
  | .tick => .tick
  | .lineFaultChange p cause present => .lineFaultChange p cause present
  | .linkUp p => .linkUp p
  | .linkDown p => .linkDown p
  | .busIdle p bits => .busIdle p bits
  | .receiveCompletion p bytes check => .receiveCompletion p bytes check
  | .symbolError p => .abandonFrame p
  | .lengthOutOfRange p length => .lengthOutOfRange p length
  | .pauseRx p => .pauseRx p
  | .holdRetest p => .holdRetest p
  | .holdExpiry p => .holdExpiry p
  | .pauseExpiry p => .pauseExpiry p
  | .transmitStart p point => .transmitStart p point
  | .arbLost p => .arbLost p
  | .collision p => .collision p
  | .transmitOutcome p slot => .transmitOutcome p slot
  | .holdBeyondTolerance p => .holdBeyondTolerance p
  | .requestDecode => .requestDecode
  | .replyReoffer p => .replyReoffer p
  | .ident words => .opIdent words
  | .select => .opSelect
  | .read words => .opRead words
  | .write => .opWrite
  | .portOffline p => .opPortOffline p
  | .portOnline p => .opPortOnline p
  | .groupSet => .opGroupSet
  | .groupClear => .opGroupClear
  | .counters words => .opCounters words
  | .countersClear => .opCountersClear
  | .eventsRead words => .opEventsRead words
  | .eventsClear => .opEventsClear
  | .eventsMask => .opEventsMask
  | .captureTake => .opCaptureTake
  | .storeSelect => .opStoreSelect
  | .storeRead words => .opStoreRead words
  | .storeFill => .opStoreFill
  | .storeStage => .opStoreStage
  | .storeErase => .opStoreErase
  | .storeWrite => .opStoreWrite
  | .storeStatus => .opStoreStatus
  | .restart => .opRestart
  | .storeEraseComplete => .eraseComplete
  | .storeWriteComplete => .writeComplete
  | .startBit p => .startBit p
  | .endDelimiter p => .endDelimiter p

theorem exec_eq_effect (c : Instr) (s : State) : exec c s = .next ⟨s.pending, effect c s.gw⟩ := by
  cases c <;> rfl

/-- A command answers the state its effect leaves: what is to be shown of the next state is shown of the effect. -/
theorem exec_of_effect {c : Instr} {s : State} {Q : State → Prop} (h : Q ⟨s.pending, effect c s.gw⟩) :
    ∃ t, exec c s = .next t ∧ Q t :=
  ⟨_, exec_eq_effect c s, h⟩

/-- A step that answers a next state has idled on an empty queue, or taken the front command. -/
theorem step_cases {s s' : State} (h : step s = .next s') :
    s' = s ∨ ∃ c rest, s.pending = c :: rest ∧ s' = ⟨rest, effect c s.gw⟩ := by
  unfold step at h
  split at h
  · rename_i c rest pending
    rw [exec_eq_effect] at h
    cases h
    exact .inr ⟨c, rest, pending, rfl⟩
  · cases h
    exact .inl rfl

/-- What every command's effect keeps, every step keeps. -/
theorem kept_of_effect {I : Gateway → Prop} (keeps : ∀ c g, I g → I (effect c g)) : Kept I := by
  intro s s' holds next
  rcases step_cases next with rfl | ⟨c, rest, -, rfl⟩
  · exact holds
  · exact keeps c s.gw holds

/-! ## What an operation of the agent can do (R120, R123) -/

/-- The body of an operation, `k` words taken in this step by one that reads (R127 to R141). That of RESTART is the
one check it can fail besides access; what it does when it passes is `Gateway.beginRestart` (R142). -/
def Gateway.opBody (g : Gateway) (k : Nat) : Op → Execution → OpOutcome
  | .ident => fun ex => ex.readWords 8 k g.identWord .ok (fun _ => g) (fun _ => g)
  | .select table index => fun _ => g.selectWindow table index
  | .read n => g.readWindow n k
  | .write ws => fun _ => g.writeWindow ws
  | .groupSet port bins => fun _ => g.writeBins port bins true
  | .groupClear port bins => fun _ => g.writeBins port bins false
  | .counters block => g.readBlock block k
  | .countersClear block => fun _ => g.clearCounters block
  | .eventsRead => fun ex => ex.readWords 6 k g.eventWord .ok (fun _ => g) (fun _ => g)
  | .eventsClear w0 w1 => fun _ => .done .ok [] 2 (g.clearFlags w0 w1)
  | .eventsMask w0 w1 => fun _ => .done .ok [] 2 (g.replaceMasks w0 w1)
  | .captureTake => g.takeCapture
  | .storeSelect page word => fun _ => g.selectStore page word
  | .storeRead n => g.readStore n k
  | .storeFill ws => fun _ => g.fillStore ws
  | .storeStage => fun _ => g.stageStore
  | .storeErase => fun _ => g.startErase
  | .storeWrite => fun _ => g.startWrite
  | .storeStatus => g.statusStore
  | .restart => fun _ => .fail .storeInUse

theorem runs_of_currentOp {g : Gateway} {op : Op} (h : g.currentOp = some op) : ∃ ex, g.Runs ex op := by
  unfold Gateway.currentOp at h
  cases executing : g.exec with
  | none => simp [executing] at h
  | some ex =>
    simp only [executing, Option.bind_some, Execution.current] at h
    split at h
    · exact ⟨ex, executing, ‹_›, h⟩
    · cases h

/-- The command of an operation that runs next, other than a RESTART, runs its body after the access check. -/
theorem effect_command {g : Gateway} {ex : Execution} {op : Op} (runs : g.Runs ex op) (other : op ≠ .restart) (k : Nat) :
    effect (op.command k) g = g.runOp op.needsFull (g.opBody k op) := by
  have current := currentOp_of_runs runs
  cases op <;>
    simp only [Op.command, effect, Gateway.opIdent, Gateway.opSelect, Gateway.opRead, Gateway.opWrite,
      Gateway.opGroupSet, Gateway.opGroupClear, Gateway.opCounters, Gateway.opCountersClear, Gateway.opEventsRead,
      Gateway.opEventsClear, Gateway.opEventsMask, Gateway.opCaptureTake, Gateway.opStoreSelect, Gateway.opStoreRead,
      Gateway.opStoreFill, Gateway.opStoreStage, Gateway.opStoreErase, Gateway.opStoreWrite, Gateway.opStoreStatus,
      current, Op.needsFull] <;>
    first | rfl | exact absurd rfl other

/-- RESTART begins a restart when access is FULL and the store idle, and fails otherwise (R142). -/
theorem effect_restart {g : Gateway} {ex : Execution} (runs : g.Runs ex .restart) :
    effect .restart g =
      if g.execAccess = .full ∧ g.store.busy = false then (g.beginRestart ex).settle
      else g.runOp true (g.opBody 0 .restart) := by
  simp only [effect, Gateway.opRestart, currentOp_of_runs runs, runs.1, Bool.not_eq_true]
  rfl

/-- The commands that run an operation. -/
def runsOperation : Instr → Bool
  | .ident _ | .select | .read _ | .write | .portOffline _ | .portOnline _ | .groupSet | .groupClear | .counters _
  | .countersClear | .eventsRead _ | .eventsClear | .eventsMask | .captureTake | .storeSelect | .storeRead _
  | .storeFill | .storeStage | .storeErase | .storeWrite | .storeStatus | .restart => true
  | _ => false

/-- What the command of an operation can do: nothing, when another or none runs next; the body of the operation that
runs next, after the access check; or the begin of a restart. -/
inductive OperationStep (g : Gateway) : Gateway → Prop
  | idle : OperationStep g g
  | body (op : Op) (k : Nat) (ex : Execution) (runs : g.Runs ex op) :
      OperationStep g (g.runOp op.needsFull (g.opBody k op))
  | restart (ex : Execution) (runs : g.Runs ex .restart) (access : g.execAccess = .full)
      (idle : g.store.busy = false) : OperationStep g (g.beginRestart ex).settle

/-- How many words the command of a reading operation takes (R120). -/
def wordsTaken : Instr → Nat
  | .ident k | .read k | .counters k | .eventsRead k | .storeRead k => k
  | _ => 0

/-- The command of an operation that does not run next changes nothing (entry 1); the commands for a change of mode
are a WRITE of their own kind and stand apart. -/
theorem effect_of_other_operation {c : Instr} {g : Gateway} (h : runsOperation c = true)
    (noMode : ∀ p, c ≠ .portOffline p ∧ c ≠ .portOnline p)
    (other : ∀ op, g.currentOp = some op → c ≠ op.command (wordsTaken c)) : effect c g = g := by
  cases c <;> first | (cases h; done) | skip
  case portOffline p => exact absurd rfl (noMode p).1
  case portOnline p => exact absurd rfl (noMode p).2
  all_goals
    simp only [effect, Gateway.opIdent, Gateway.opSelect, Gateway.opRead, Gateway.opWrite,
      Gateway.opGroupSet, Gateway.opGroupClear, Gateway.opCounters, Gateway.opCountersClear, Gateway.opEventsRead,
      Gateway.opEventsClear, Gateway.opEventsMask, Gateway.opCaptureTake, Gateway.opStoreSelect, Gateway.opStoreRead,
      Gateway.opStoreFill, Gateway.opStoreStage, Gateway.opStoreErase, Gateway.opStoreWrite, Gateway.opStoreStatus,
      Gateway.opRestart]
    split
    · exact absurd rfl (other _ ‹_›)
    · rfl

theorem command_operationStep (g : Gateway) (op : Op) (k : Nat) (current : g.currentOp = some op) :
    OperationStep g (effect (op.command k) g) := by
  obtain ⟨ex, runs⟩ := runs_of_currentOp current
  by_cases other : op = .restart
  · subst other
    show OperationStep g (effect .restart g)
    rw [effect_restart runs]
    split
    · rename_i passes
      exact .restart ex runs passes.1 passes.2
    · exact .body .restart 0 ex runs
  · rw [effect_command runs other]
    exact .body op k ex runs

theorem effect_operationStep (c : Instr) (g : Gateway) (h : runsOperation c = true) : OperationStep g (effect c g) := by
  have direct : ∀ c, runsOperation c = true → (∀ p, c ≠ .portOffline p ∧ c ≠ .portOnline p) →
      OperationStep g (effect c g) := by
    intro c h noMode
    by_cases run : ∃ op, g.currentOp = some op ∧ c = op.command (wordsTaken c)
    · obtain ⟨op, current, same⟩ := run
      rw [same]
      exact command_operationStep g op _ current
    · rw [effect_of_other_operation h noMode fun op current same => run ⟨op, current, same⟩]
      exact .idle
  have write : OperationStep g g.opWrite := direct .write rfl (by simp)
  by_cases mode : ∃ p, c = .portOffline p ∨ c = .portOnline p
  · obtain ⟨p, rfl | rfl⟩ := mode
    · show OperationStep g (if _ then _ else _)
      split
      · exact write
      · exact .idle
    · show OperationStep g (if _ then _ else _)
      split
      · exact write
      · exact .idle
  · exact direct c h (by simpa using mode)

end Sys2Proof.Machine
end

section
/-! SUPPORT. The frame of every command: the parts it can change, command by command. -/

open Sys2Proof

namespace Sys2Proof.Machine

/-! ## Frames of the shared operations that the laws leave out -/

/-- A frame holds of an update that leaves each part outside the list as it is. -/
theorem AllBut.of_same {l : List Part} {g t : Gateway} (h : ∀ x, x ∈ l ∨ Part.Same g t x) : AllBut l g t :=
  fun x hx => (h x).resolve_left hx

theorem portPart_mem_of_both {l : List Part} (a : Part.portA ∈ l) (b : Part.portB ∈ l) (p : PortId) :
    ∀ x ∈ [portPart p], x ∈ l := by
  cases p <;> simpa [portPart]

/-- A change of a port, where both ports may change. -/
theorem modPort_allBut_of_both {l : List Part} (a : Part.portA ∈ l) (b : Part.portB ∈ l) (g : Gateway) (p : PortId)
    (f : Port → Port) : AllBut l g (g.modPort p f) :=
  (modPort_allBut g p f).mono (portPart_mem_of_both a b p)

theorem modPort_allBut_ports (g : Gateway) (p : PortId) (f : Port → Port) :
    AllBut [.portA, .portB] g (g.modPort p f) :=
  modPort_allBut_of_both (by decide) (by decide) g p f

theorem evalLevel_allBut_endParts (g : Gateway) (c : Level) (v : Bool) : AllBut endParts g (g.evalLevel c v) :=
  (evalLevel_allBut g c v).mono (by decide)

theorem latch_allBut_endParts (g : Gateway) (src : Source) : AllBut endParts g (g.latch src) :=
  (latch_allBut g src).mono (by decide)

theorem modPort_allBut_endParts (g : Gateway) (p : PortId) (f : Port → Port) : AllBut endParts g (g.modPort p f) :=
  modPort_allBut_of_both (by decide) (by decide) g p f

theorem bump_allBut_endParts (g : Gateway) (i n : Nat) : AllBut endParts g (g.bump i n) :=
  (bump_allBut g i n).mono (by decide)

theorem answerNak_allBut_endParts (g : Gateway) (p : PortId) (r : DecisionRecord) (resp : Response) :
    AllBut endParts g (g.answerNak p r resp) :=
  (answerNak_allBut g p r resp).mono (by cases p <;> decide)

theorem answerAck_allBut_endParts (g : Gateway) (p : PortId) : AllBut endParts g (g.answerAck p) :=
  (answerAck_allBut g p).mono (by cases p <;> decide)

theorem reportExceed_allBut (g : Gateway) (p : PortId) (r : DecisionRecord) (k : Nat) :
    AllBut endParts g (g.reportExceed p r k) := by
  unfold Gateway.reportExceed
  split
  · exact .refl _ _
  · exact ((modPort_allBut_endParts g p _).trans (bump_allBut_endParts _ _ _)).trans (latch_allBut_endParts _ _)

theorem failAttempt_allBut (p : PortId) (g : Gateway) : AllBut endParts g (g.failAttempt p) := by
  unfold Gateway.failAttempt
  dsimp only
  have waits := modPort_allBut_endParts g p fun q =>
    { q with attempts := (g.port p).attempts + 1, tx := .tWaitIdle, sending := none, tolerance := none }
  split
  · exact waits
  · exact ((waits.trans (bump_allBut_endParts _ _ _)).trans (endTransmission_allBut _ p _)).trans
      (latch_allBut_endParts _ _)

theorem takeOutcome_allBut (p : PortId) (g : Gateway) (outcome : TxOutcome) :
    AllBut endParts g (g.takeOutcome p outcome) := by
  cases outcome
  · exact (bump_allBut_endParts g _ _).trans (endTransmission_allBut _ p _)
  · exact (bump_allBut_endParts g _ _).trans (endTransmission_allBut _ p _)
  · exact failAttempt_allBut p g

/-! ## Frames of decisions -/

/-- The parts that a decision for a received frame, or a re-test of a hold, can change (R65 to R112). -/
def decisionParts : List Part :=
  [.meters, .capture, .exec] ++ endParts

/-- A claim of a management request touches pool, agent, ports, counters and Event Monitor alone (R69, R118). -/
theorem claimManagement_allBut {g t : Gateway} {p : PortId} {r : DecisionRecord} {f : Frame}
    (h : g.claimManagement p r f = some t) : AllBut (.agentQueue :: .exec :: .counters :: latchParts) g t := by
  unfold Gateway.claimManagement at h
  split at h
  · cases h
    refine AllBut.trans (AllBut.trans (AllBut.trans ?_ ((answerAck_allBut _ p).mono (by cases p <;> decide)))
      ((evalPool_allBut _).mono (by decide))) ((beginExecution_allBut _).mono (by decide))
    exact .of_same fun x => by cases x <;> simp [latchParts, Part.Same]
  · cases h

/-- A claim of a DIVERT frame touches pool, capture queue, ports, counters and Event Monitor alone (R78, R135). -/
theorem claimDivert_allBut {g t : Gateway} {p : PortId} {r : DecisionRecord} {f : Frame}
    (h : g.claimDivert p r f = some t) : AllBut (.capture :: .counters :: latchParts) g t := by
  unfold Gateway.claimDivert at h
  split at h
  · cases h
    refine AllBut.trans (AllBut.trans (AllBut.trans ?_ ((answerAck_allBut _ p).mono (by cases p <;> decide)))
      ((evalPool_allBut _).mono (by decide))) ((evalLevel_allBut _ _ _).mono (by decide))
    exact .of_same fun x => by cases x <;> simp [latchParts, Part.Same]
  · cases h

theorem claimForward_allBut_decisionParts (g : Gateway) (p : PortId) (r : DecisionRecord) (f : Frame)
    (queue : QueueName) : AllBut decisionParts g (g.claimForward p r f queue) :=
  (claimForward_allBut g p r f queue).mono (by decide)

theorem debit_allBut (g : Gateway) (k n : Nat) : AllBut [.meters] g (g.debit k n) :=
  .of_same fun x => by cases x <;> simp [Part.Same]

theorem carryForward_allBut (g : Gateway) (p : PortId) (r : DecisionRecord) (f : Frame) (wait : Gateway → Gateway)
    (waits : AllBut decisionParts g (wait g)) (verdict : ForwardVerdict) :
    AllBut decisionParts g (g.carryForward p r f wait verdict) := by
  have report : ∀ h k, AllBut decisionParts g h → AllBut decisionParts g (h.reportExceed p r k) := fun h k before =>
    before.trans ((reportExceed_allBut h p r k).mono (by decide))
  have nak : ∀ resp, AllBut decisionParts g (g.answerNak p r resp) := fun resp =>
    (answerNak_allBut_endParts g p r resp).mono (by decide)
  cases verdict with
  | noCapacity => exact waits
  | pass => exact claimForward_allBut_decisionParts g p r f _
  | conform k => exact ((debit_allBut g k _).mono (by decide)).trans (claimForward_allBut_decisionParts _ p r f _)
  | exceed k mode =>
    cases mode with
    | drop => exact report _ k (nak _)
    | hold => exact report _ k waits
    | pause => exact report _ k ((nak _).trans ((modPort_allBut_endParts _ p _).mono (by decide)))
    | mark => exact report _ k (claimForward_allBut_decisionParts g p r f _)

theorem holdOrBusy_allBut_decisionParts (g : Gateway) (p : PortId) (r : DecisionRecord) :
    AllBut decisionParts g (g.holdOrBusy p r) :=
  (holdOrBusy_allBut g p r).mono (by cases p <;> decide)

theorem silent_allBut_decisionParts (g : Gateway) (p : PortId) (r : DecisionRecord) :
    AllBut decisionParts g (g.silent p r) :=
  (silent_allBut g p r).mono (by cases p <;> decide)

/-- A claim that may find no room changes what it changes, or what the wait changes. -/
theorem getD_allBut {l : List Part} {g t : Gateway} {claim : Option Gateway}
    (claimed : ∀ h, claim = some h → AllBut l g h) (waits : AllBut l g t) : AllBut l g (claim.getD t) := by
  cases found : claim with
  | none => exact waits
  | some h => exact claimed h found

theorem decideForward_allBut (g : Gateway) (p : PortId) (r : DecisionRecord) (f : Frame) :
    AllBut decisionParts g (g.decideForward p r f) := by
  have nak := (answerNak_allBut_endParts g p r .nakRefuse).mono (m := decisionParts) (by decide)
  unfold Gateway.decideForward
  split
  · exact (nak.trans ((bump_allBut _ _ _).mono (by decide))).trans ((latch_allBut _ _).mono (by decide))
  · split
    · exact silent_allBut_decisionParts g p r
    · split
      · exact nak
      · exact carryForward_allBut g p r f _ (holdOrBusy_allBut_decisionParts g p r) _

theorem decideAction_allBut (g : Gateway) (p : PortId) (r : DecisionRecord) (f : Frame) :
    AllBut decisionParts g (g.decideAction p r f) := by
  unfold Gateway.decideAction
  split
  · exact silent_allBut_decisionParts g p r
  · exact (answerNak_allBut_endParts g p r _).mono (by decide)
  · exact getD_allBut (fun h claimed => (claimDivert_allBut claimed).mono (by decide)) (holdOrBusy_allBut_decisionParts g p r)
  · exact decideForward_allBut g p r f
  · exact silent_allBut_decisionParts g p r

theorem routeHit_allBut (g : Gateway) (p : PortId) (f : Frame) : AllBut [.route] g { g with route := g.routeHit p f } :=
  .of_same fun x => by cases x <;> simp [Part.Same]

/-- The route path decides on the record of the lookup, in the part with the hit counted (R74 to R76). -/
theorem decideRoute_eq (g : Gateway) (p : PortId) (f : Frame) :
    g.decideRoute p f = ({ g with route := g.routeHit p f }).decideAction p (g.routeRecord p f) f := by
  unfold Gateway.decideRoute Gateway.routeHit Gateway.routeRecord
  cases lookup g.route p f <;> rfl

theorem classify_allBut (g : Gateway) (p : PortId) (f : Frame) :
    AllBut (.route :: decisionParts) g (g.classify p f) := by
  unfold Gateway.classify
  dsimp only
  split
  · exact (silent_allBut_decisionParts g p _).mono (by decide)
  · split
    · exact (getD_allBut (fun h claimed => (claimManagement_allBut claimed).mono (by decide)) (holdOrBusy_allBut_decisionParts g p _)).mono (by decide)
    · rw [decideRoute_eq]
      exact ((routeHit_allBut g p f).mono (by decide)).trans ((decideAction_allBut _ p _ f).mono (by decide))

theorem retestHold_allBut (g : Gateway) (p : PortId) (r : DecisionRecord) (f : Frame) :
    AllBut decisionParts g (g.retestHold p r f) := by
  unfold Gateway.retestHold
  split
  · exact getD_allBut (fun h claimed => (claimManagement_allBut claimed).mono (by decide)) (.refl _ g)
  · split
    · exact getD_allBut (fun h claimed => (claimDivert_allBut claimed).mono (by decide)) (.refl _ g)
    · exact carryForward_allBut g p r f id (.refl _ g) _

theorem complete_allBut (p : PortId) (f : Frame) (check : Word) (g : Gateway) :
    AllBut (.route :: decisionParts) g (g.complete p f check) := by
  have staged := (modPort_allBut_endParts g p (·.stage f check)).mono (m := .route :: decisionParts) (by decide)
  have counted : ∀ c, AllBut (.route :: decisionParts) g ((g.modPort p (·.stage f check)).count p c) := fun c =>
    staged.trans ((bump_allBut _ _ _).mono (by decide))
  unfold Gateway.complete
  dsimp only
  split
  · exact (counted _).trans ((latch_allBut _ _).mono (by decide))
  · exact counted _
  · split
    · exact (counted _).trans (classify_allBut _ p f)
    · exact counted _

/-! ## Frames of operations (R124, R127 to R142) -/

/-- The parts that an operation's own body changes, besides those that the end of an execution can change. -/
def Op.changes : Op → List Part
  | .select _ _ | .read _ => [.window]
  | .write _ => [.window, .general, .group, .meters, .route]
  | .groupSet _ _ | .groupClear _ _ => [.group]
  | .eventsMask _ _ => [.general]
  | .captureTake => [.capture]
  | .storeSelect _ _ | .storeRead _ | .storeFill _ | .storeStage | .storeErase | .storeWrite => [.store]
  | .ident | .counters _ | .countersClear _ | .eventsRead | .eventsClear _ _ | .storeStatus | .restart => []

/-- Every part that an outcome of an operation comes with meets `Q`. -/
def OpOutcome.Leaves (Q : Gateway → Prop) : OpOutcome → Prop
  | .fail _ => True
  | .reading _ g => Q g
  | .done _ _ _ g => Q g

theorem OpOutcome.Leaves.mono {Q R : Gateway → Prop} {o : OpOutcome} (h : o.Leaves Q) (sub : ∀ g, Q g → R g) :
    o.Leaves R := by
  cases o
  · trivial
  · exact sub _ h
  · exact sub _ h

/-- An operation keeps `I` when its body's outcomes do, and the end of an execution, the next operation and the
selections that follow do. -/
theorem runOp_keeps {I Q : Gateway → Prop} {g : Gateway} {full : Bool} {body : Execution → OpOutcome} (holds : I g)
    (fails : ∀ ex status, g.exec = some ex → I (g.failOp ex status).settle)
    (leaves : ∀ ex, g.exec = some ex → (body ex).Leaves Q)
    (reads : ∀ ex h taken, g.exec = some ex → Q h → I { h with exec := some { ex with taken := taken } })
    (done : ∀ ex h status data words, g.exec = some ex → Q h → I (h.finishOp ex status data words).settle) :
    I (g.runOp full body) := by
  unfold Gateway.runOp
  split
  · exact holds
  · rename_i ex executing
    have left := leaves ex executing
    split
    · exact fails ex _ executing
    · split <;> rename_i outcome <;> rw [outcome] at left
      · exact fails ex _ executing
      · exact reads ex _ _ executing left
      · exact done ex _ _ _ _ executing left

theorem execution_allBut (g : Gateway) (ex : Option Execution) : AllBut [.exec] g { g with exec := ex } :=
  .of_same fun x => by cases x <;> simp [Part.Same]

theorem settle_allBut_replyParts (g : Gateway) : AllBut replyParts g g.settle :=
  (settle_allBut g).mono (by decide)

theorem finishOp_allBut (g : Gateway) (ex : Execution) (status : OpStatus) (data : List Byte) (words : Nat) :
    AllBut replyParts g (g.finishOp ex status data words) := by
  unfold Gateway.finishOp
  dsimp only
  split
  · exact endExecution_allBut g _ _
  · exact (execution_allBut g _).mono (by decide)

theorem runOp_allBut {l : List Part} (reply : ∀ x ∈ replyParts, x ∈ l) (g : Gateway) (full : Bool)
    (body : Execution → OpOutcome) (leaves : ∀ ex, (body ex).Leaves (AllBut l g)) : AllBut l g (g.runOp full body) := by
  refine runOp_keeps (Q := AllBut l g) (.refl l g) (fun ex status _ => ?_) (fun ex _ => leaves ex)
    (fun ex h taken _ left => ?_) (fun ex h status data words _ left => ?_)
  · exact ((failOp_allBut g ex status).mono reply).trans ((settle_allBut_replyParts _).mono reply)
  · exact left.trans ((execution_allBut h _).mono fun x hx => reply x (by simp_all [replyParts]))
  · exact (left.trans ((finishOp_allBut h ex status data words).mono reply)).trans
      ((settle_allBut_replyParts _).mono reply)

/-- What a reading operation leaves is what it leaves with some words taken, or with the last. -/
theorem readWords_leaves {Q : Gateway → Prop} {part whole : Nat → Gateway} (parts : ∀ m, Q (part m))
    (wholes : ∀ m, Q (whole m)) (ex : Execution) (n k : Nat) (get : Nat → Word) (status : OpStatus) :
    (ex.readWords n k get status part whole).Leaves Q := by
  unfold Execution.readWords
  dsimp only
  split
  · split
    · exact parts _
    · exact wholes _
  · trivial

theorem offerReply_allBut_endParts (c : AgentEntry → Bool) (g : Gateway) : AllBut endParts g (g.offerReply c) :=
  (offerReply_allBut c g).mono (by decide)

theorem foldl_allBut {α : Type} {l : List Part} {f : Gateway → α → Gateway} (step : ∀ g a, AllBut l g (f g a))
    (as : List α) (g : Gateway) : AllBut l g (as.foldl f g) := by
  induction as generalizing g with
  | nil => exact .refl l g
  | cons a as ih => exact (step g a).trans (ih _)

theorem goOffline_allBut (g : Gateway) (p : PortId) : AllBut endParts g (g.goOffline p) := by
  unfold Gateway.goOffline
  dsimp only
  refine AllBut.trans (AllBut.trans ?_ (offerReply_allBut_endParts _ _)) (offerReply_allBut_endParts _ _)
  refine AllBut.trans (AllBut.trans ?_ ((evalPool_allBut _).mono (by decide)))
    (foldl_allBut (fun h b => (reportEnd_allBut h b _).mono (by decide)) _ _)
  have flushed : AllBut endParts g
      ((g.modPort p Port.flushed).bump (portCounterIndex p .flushed) (g.port p).buffers.length) :=
    (modPort_allBut_of_both (by decide) (by decide) g p _).trans ((bump_allBut _ _ _).mono (by decide))
  split
  · exact flushed
  · exact (flushed.trans ((giveBack_allBut _ _).mono (by decide))).trans ((promptEgress_allBut _ p).mono (by decide))

theorem goOnline_allBut (g : Gateway) (p : PortId) : AllBut [.portA, .portB] g (g.goOnline p) := by
  unfold Gateway.goOnline
  dsimp only
  split
  · exact (modPort_allBut_of_both (by decide) (by decide) g p _).trans
      ((promptActive_allBut _ p).mono (portPart_mem_of_both (by simp) (by simp) _))
  · exact modPort_allBut_of_both (by decide) (by decide) g p _

theorem portWritten_allBut (g : Gateway) (p : PortId) (old : Port) : AllBut endParts g (g.portWritten p old) := by
  unfold Gateway.portWritten
  dsimp only
  have rate : AllBut endParts g
      (if rateCode (g.port p).words.control ≠ rateCode old.words.control then g.modPort p Port.changeRate else g) := by
    split
    · exact modPort_allBut_of_both (by decide) (by decide) g p _
    · exact .refl _ g
  generalize (if rateCode (g.port p).words.control ≠ rateCode old.words.control then g.modPort p Port.changeRate
    else g) = h at rate ⊢
  split
  · exact rate.trans ((goOnline_allBut _ p).mono (by decide))
  · split
    · exact rate.trans (goOffline_allBut _ p)
    · exact rate

theorem writePort_allBut (g : Gateway) (targets : List (Nat × Word)) : AllBut endParts g (g.writePort targets) :=
  ((foldl_allBut (fun h iw => modPort_allBut_of_both (by decide) (by decide) h _ _) targets g).trans
    (portWritten_allBut _ .a _)).trans (portWritten_allBut _ .b _)

theorem meters_allBut (g : Gateway) (ms : List Meter) : AllBut [.meters] g { g with meters := ms } :=
  .of_same fun x => by cases x <;> simp [Part.Same]

theorem meterWritten_allBut (targets : List (Nat × Word)) (g : Gateway) (k : Nat) :
    AllBut [.meters, .portA, .portB] g (g.meterWritten targets k) := by
  unfold Gateway.meterWritten
  split
  · exact ((meters_allBut g _).mono (by decide)).trans ((promptMeter_allBut _ k).mono (by decide))
  · exact .refl _ g

theorem writeMeters_allBut (g : Gateway) (targets : List (Nat × Word)) :
    AllBut [.meters, .portA, .portB] g (g.writeMeters targets) :=
  ((meters_allBut g _).mono (by decide)).trans (foldl_allBut (meterWritten_allBut targets) _ _)

/-- The part that a table stands in, as far as a WRITE can change it (R129, R130). -/
def Table.part : Table → List Part
  | .port => endParts
  | .general => .general :: latchParts
  | .group => [.group]
  | .meter => [.meters, .portA, .portB]
  | .route => [.route]
  | .counters | .events => []

theorem writeTable_allBut (g : Gateway) (t : Table) (targets : List (Nat × Word)) :
    AllBut t.part g (g.writeTable t targets) := by
  cases t
  case port => exact writePort_allBut g targets
  case general =>
    refine AllBut.trans (h := { g with general := _ }) ?_ ((evalPool_allBut _).mono (by decide))
    exact .of_same fun x => by cases x <;> simp [Part.Same, Table.part]
  case meter => exact writeMeters_allBut g targets
  all_goals exact .of_same fun x => by cases x <;> simp [Part.Same, Table.part, Gateway.writeTable]

theorem moveWindow_allBut (g : Gateway) (n : Nat) : AllBut [.window] g (g.moveWindow n) :=
  .of_same fun x => by cases x <;> simp [Part.Same]

theorem dropCapture_allBut (g : Gateway) : AllBut (.capture :: endParts) g g.dropCapture := by
  unfold Gateway.dropCapture
  dsimp only
  refine AllBut.trans (AllBut.trans (AllBut.trans (AllBut.trans (AllBut.trans (h := { g with capture := g.capture.tail })
    ?_ ((giveBack_allBut _ 1).mono (by decide)))
    ((evalPool_allBut _).mono (by decide))) ((bump_allBut _ _ _).mono (by decide)))
    ((evalLevel_allBut _ _ _).mono (by decide))) ((promptCapture_allBut _).mono (by decide))
  exact .of_same fun x => by cases x <;> simp [Part.Same]

theorem store_allBut (g : Gateway) (s : Store) : AllBut [.store] g { g with store := s } :=
  .of_same fun x => by cases x <;> simp [Part.Same]

theorem startStore_allBut (g : Gateway) (kind : StoreOp) (state : StoreState) :
    AllBut (.store :: endParts) g (g.startStore kind state) :=
  ((store_allBut g _).mono (by decide)).trans ((evalLevel_allBut _ _ _).mono (by decide))

theorem replaceMasks_allBut (g : Gateway) (w0 w1 : Word) : AllBut (.general :: latchParts) g (g.replaceMasks w0 w1) := by
  refine AllBut.trans (h := { g with general := _ }) ?_ ((alertEval_allBut _).mono (by decide))
  exact .of_same fun x => by cases x <;> simp [Part.Same]

theorem clearFlags_allBut (g : Gateway) (w0 w1 : Word) : AllBut latchParts g (g.clearFlags w0 w1) := by
  refine AllBut.trans (h := { g with monitor := _ }) ?_ (alertEval_allBut _)
  exact .of_same fun x => by cases x <;> simp [Part.Same, latchParts]

theorem opBody_leaves (g : Gateway) (k : Nat) (op : Op) (ex : Execution) :
    (g.opBody k op ex).Leaves (AllBut (op.changes ++ endParts) g) := by
  have same : ∀ l, AllBut l g g := fun l => .refl l g
  cases op
  case ident => exact readWords_leaves (fun _ => same _) (fun _ => same _) ex _ _ _ _
  case eventsRead => exact readWords_leaves (fun _ => same _) (fun _ => same _) ex _ _ _ _
  case select table index =>
    simp only [Gateway.opBody, Gateway.selectWindow]
    repeat' split
    · trivial
    · exact .of_same fun x => by cases x <;> simp [Part.Same, Op.changes]
    · trivial
  case read n =>
    simp only [Gateway.opBody, Gateway.readWindow]
    split
    · exact readWords_leaves (fun _ => same _) (fun _ => (moveWindow_allBut g n).mono (by simp [Op.changes])) ex _ _ _ _
    · trivial
  case write ws =>
    simp only [Gateway.opBody, Gateway.writeWindow]
    repeat' split
    any_goals trivial
    refine ((writeTable_allBut g _ _).mono ?_).trans ((moveWindow_allBut _ _).mono (by simp [Op.changes]))
    show ∀ x ∈ g.windowTable.part, x ∈ Op.changes (.write []) ++ endParts
    cases g.windowTable <;> decide
  case groupSet port bins =>
    simp only [Gateway.opBody, Gateway.writeBins]
    split
    · trivial
    · exact .of_same fun x => by cases x <;> simp [Part.Same, Op.changes]
  case groupClear port bins =>
    simp only [Gateway.opBody, Gateway.writeBins]
    split
    · trivial
    · exact .of_same fun x => by cases x <;> simp [Part.Same, Op.changes]
  case counters block =>
    simp only [Gateway.opBody, Gateway.readBlock]
    split
    · exact readWords_leaves (fun _ => same _) (fun _ => same _) ex _ _ _ _
    · trivial
  case countersClear block =>
    simp only [Gateway.opBody, Gateway.clearCounters]
    split
    · exact .of_same fun x => by cases x <;> simp [Part.Same, Op.changes, endParts]
    · trivial
  case eventsClear w0 w1 => exact (clearFlags_allBut g w0 w1).mono (by simp [Op.changes, latchParts, endParts])
  case eventsMask w0 w1 => exact (replaceMasks_allBut g w0 w1).mono (by simp [Op.changes, latchParts, endParts])
  case captureTake =>
    simp only [Gateway.opBody, Gateway.takeCapture]
    repeat' split
    any_goals trivial
    all_goals exact dropCapture_allBut g
  case storeSelect page word =>
    simp only [Gateway.opBody, Gateway.selectStore]
    repeat' split
    any_goals trivial
    exact (store_allBut g _).mono (by simp [Op.changes])
  case storeRead n =>
    have moved : ∀ m, AllBut ((Op.storeRead n).changes ++ endParts) g { g with store := g.store.advance m } :=
      fun m => (store_allBut g _).mono (by simp [Op.changes])
    simp only [Gateway.opBody, Gateway.readStore]
    repeat' split
    any_goals trivial
    all_goals exact readWords_leaves moved moved ex _ _ _ _
  case storeFill ws =>
    simp only [Gateway.opBody, Gateway.fillStore]
    repeat' split
    any_goals trivial
    all_goals exact (store_allBut g _).mono (by simp [Op.changes])
  case storeStage =>
    simp only [Gateway.opBody, Gateway.stageStore]
    repeat' split
    any_goals trivial
    exact (store_allBut g _).mono (by simp [Op.changes])
  case storeErase =>
    simp only [Gateway.opBody, Gateway.startErase]
    repeat' split
    any_goals trivial
    exact startStore_allBut g _ _
  case storeWrite =>
    simp only [Gateway.opBody, Gateway.startWrite]
    repeat' split
    any_goals trivial
    exact startStore_allBut g _ _
  case storeStatus =>
    simp only [Gateway.opBody, Gateway.statusStore]
    split
    · exact same _
    · trivial
  case restart => trivial

/-- An operation changes the parts of its own body and those of the end of an execution. -/
theorem runOp_opBody_allBut (g : Gateway) (k : Nat) (op : Op) :
    AllBut (op.changes ++ replyParts) g (g.runOp op.needsFull (g.opBody k op)) :=
  runOp_allBut (fun _ => List.mem_append_right _) g _ _ fun ex => (opBody_leaves g k op ex).mono fun _ frame =>
    frame.mono fun x hx => by
      rcases List.mem_append.mp hx with own | ends
      · exact List.mem_append_left _ own
      · exact List.mem_append_right _ ((by decide : ∀ x ∈ endParts, x ∈ replyParts) x ends)

theorem beginRestart_allBut (g : Gateway) (ex : Execution) : AllBut replyParts g (g.beginRestart ex) := by
  refine AllBut.trans (h := { g with restart := .pending }) ?_ (endExecution_allBut _ _ _)
  exact .of_same fun x => by cases x <;> simp [Part.Same, replyParts]

/-- A part outside those of the end of an execution changes only through the body of an operation that changes it. -/
theorem OperationStep.same_or_body {g t : Gateway} (h : OperationStep g t) {x : Part} (hx : x ∉ replyParts) :
    Part.Same g t x ∨
      ∃ op k ex, g.Runs ex op ∧ x ∈ op.changes ∧ t = g.runOp op.needsFull (g.opBody k op) := by
  cases h with
  | idle => exact .inl (.refl g x)
  | body op k ex runs =>
    by_cases own : x ∈ op.changes
    · exact .inr ⟨op, k, ex, runs, own, rfl⟩
    · exact .inl (runOp_opBody_allBut g k op x (by simp [own, hx]))
  | restart ex runs access idle =>
    exact .inl (((beginRestart_allBut g ex).trans (settle_allBut_replyParts _)) x hx)

/-! ## The frame of every other command -/

/-- The parts that a command other than an operation can change. -/
def touches : Instr → List Part
  | .powerOnReset | .lineReset | .requestReset =>
    [.phase, .loadFault, .startCause, .portA, .portB, .free, .general, .group, .meters, .route, .counters, .agentQueue,
      .exec, .restart, .window, .capture, .store, .monitor]
  | .resetRelease => [.phase, .store]
  | .bootPageLoad => [.phase, .loadFault, .general, .group, .meters, .route] ++ latchParts
  | .bootLoadEnd => [.phase, .loadFault, .meters, .route, .store] ++ latchParts
  | .tick => [.portA, .portB, .meters, .store]
  | .lineFaultChange _ _ _ | .busIdle _ _ | .startBit _ | .transmitStart _ _ => [.portA, .portB]
  | .symbolError _ | .lengthOutOfRange _ _ | .arbLost _ => [.portA, .portB, .counters]
  | .receiveCompletion _ _ _ => .route :: decisionParts
  | .holdRetest _ => decisionParts
  | .requestDecode => replyParts
  | .storeEraseComplete | .storeWriteComplete => .store :: endParts
  | _ => endParts

theorem foldl_refill_allBut (ks : List Nat) (g : Gateway) :
    AllBut [.meters, .portA, .portB] g (ks.foldl Gateway.refill g) := by
  refine foldl_allBut (fun h k => ?_) ks g
  unfold Gateway.refill
  dsimp only
  split
  · exact ((meters_allBut h _).mono (by decide)).trans ((promptMeter_allBut _ k).mono (by decide))
  · exact (meters_allBut h _).mono (by decide)

theorem tick_allBut (g : Gateway) : AllBut [.portA, .portB, .meters, .store] g g.tick := by
  unfold Gateway.tick
  split
  · exact (((modBoth_allBut g _ _).mono (by decide)).trans ((foldl_refill_allBut _ _).mono (by decide))).trans
      ((store_allBut _ _).mono (by decide))
  · exact .refl _ g

theorem loadPort_allBut (g : Gateway) (page : Page) : AllBut [.portA, .portB] g (g.loadPort page) := by
  unfold Gateway.loadPort
  split <;> exact modBoth_allBut _ _ _

theorem loadGeneral_allBut (g : Gateway) (page : Page) : AllBut (.general :: latchParts) g (g.loadGeneral page) := by
  refine AllBut.trans (h := { g with general := _ }) ?_ ((evalPool_allBut _).mono (by decide))
  exact .of_same fun x => by cases x <;> simp [Part.Same]

theorem loadGroup_allBut (g : Gateway) (page : Page) : AllBut [.group] g (g.loadGroup page) :=
  .of_same fun x => by cases x <;> simp [Part.Same, Gateway.loadGroup]

theorem loadMeters_allBut (g : Gateway) (page : Page) (n : Nat) : AllBut [.meters] g (g.loadMeters page n) :=
  meters_allBut g _

theorem loadRoute_allBut (g : Gateway) (page : Page) (n : Nat) : AllBut [.route] g (g.loadRoute page n) :=
  .of_same fun x => by cases x <;> simp [Part.Same, Gateway.loadRoute]

/-- The part as the load of page `n` begins: LOAD_FAULT kept for a TORN page, the next page named (R162). -/
def Gateway.pageBegun (g : Gateway) (n : Nat) : Gateway :=
  { g with
    loadFault := g.loadFault || (g.store.pageAt n).state == PageState.torn
    phase := .loading (n + 1) }

theorem pageBegun_allBut (g : Gateway) (n : Nat) : AllBut [.phase, .loadFault] g (g.pageBegun n) :=
  .of_same fun x => by cases x <;> simp [Part.Same, Gateway.pageBegun]

/-- The load of a page by its number (R157, R162). -/
theorem loadPage_eq (g : Gateway) (n : Nat) :
    g.loadPage n =
      if n = 1 then (g.pageBegun n).loadPort (g.store.pageAt n)
      else if n = 2 then (g.pageBegun n).loadGeneral (g.store.pageAt n)
      else if n = 3 then (g.pageBegun n).loadGroup (g.store.pageAt n)
      else if n ≤ 7 then (g.pageBegun n).loadMeters (g.store.pageAt n) n
      else (g.pageBegun n).loadRoute (g.store.pageAt n) n := rfl

theorem loadPage_allBut (g : Gateway) (n : Nat) : AllBut (touches .bootPageLoad) g (g.loadPage n) := by
  rw [loadPage_eq]
  refine AllBut.trans ((pageBegun_allBut g n).mono (by decide)) ?_
  repeat' split
  · exact (loadPort_allBut _ _).mono (by decide)
  · exact (loadGeneral_allBut _ _).mono (by decide)
  · exact (loadGroup_allBut _ _).mono (by decide)
  · exact (loadMeters_allBut _ _ _).mono (by decide)
  · exact (loadRoute_allBut _ _ _).mono (by decide)

theorem endLoad_allBut (g : Gateway) : AllBut (touches .bootLoadEnd) g g.endLoad := by
  have loaded : AllBut (touches .bootLoadEnd) g
      { g with
        phase := .running
        loadFault := false
        route := settleRoute g.store g.route
        meters := g.meters.map Meter.started
        store := { g.store with inFlight := none } } :=
    .of_same fun x => by cases x <;> simp [Part.Same, touches]
  have latched : ∀ (h : Gateway) (due : Bool) (src : Source), AllBut (touches .bootLoadEnd) g h →
      AllBut (touches .bootLoadEnd) g (if due then h.latch src else h) := by
    intro h due src before
    cases due
    · exact before
    · exact before.trans ((latch_allBut h src).mono (by decide))
  exact latched _ _ _ (latched _ _ _ (loaded.trans ((modBoth_allBut _ _ _).mono (by decide))))

theorem endPause_allBut (p : PortId) (n : Nat) (g : Gateway) : AllBut endParts g (g.endPause p n) :=
  (((modPort_allBut_endParts g p _).trans (bump_allBut_endParts _ _ _)).trans (latch_allBut_endParts _ _)).trans
    (settle_allBut _)

theorem abandonFrame_allBut (p : PortId) (g : Gateway) : AllBut [.portA, .portB, .counters] g (g.abandonFrame p) := by
  unfold Gateway.abandonFrame
  split
  · exact (modPort_allBut_of_both (by decide) (by decide) g p _).trans ((bump_allBut _ _ _).mono (by decide))
  · exact .refl _ g

theorem completed_allBut (g : Gateway) (s : Store) : AllBut (.store :: endParts) g (g.completed s) :=
  (((store_allBut g s).mono (by decide)).trans ((latch_allBut _ _).mono (by decide))).trans
    (((evalLevel_allBut _ _ _).mono (by decide)).trans ((settle_allBut _).mono (by decide)))

theorem requestDecode_allBut (g : Gateway) : AllBut replyParts g g.requestDecode := by
  unfold Gateway.requestDecode
  repeat' split
  · exact .refl _ g
  · exact ((((bump_allBut g _ _).mono (by decide)).trans ((latch_allBut _ _).mono (by decide))).trans
      (endExecution_allBut _ _ _)).trans (settle_allBut_replyParts _)
  · exact (execution_allBut g _).mono (by decide)
  · exact .refl _ g

/-- A command other than an operation changes no part but those listed for it. -/
theorem effect_allBut (c : Instr) (g : Gateway) (other : runsOperation c = false) : AllBut (touches c) g (effect c g) := by
  have settled : ∀ {h : Gateway}, AllBut endParts g h → AllBut endParts g h.settle := fun before =>
    before.trans (settle_allBut _)
  cases c <;> first | (cases other; done) | skip
  case powerOnReset => exact .of_same fun x => by cases x <;> simp [touches]
  case lineReset => exact .of_same fun x => by cases x <;> simp [touches]
  case requestReset => exact .of_same fun x => by cases x <;> simp [touches]
  case resetRelease =>
    simp only [effect, Gateway.resetRelease]
    split
    · exact .of_same fun x => by cases x <;> simp [touches, Part.Same, Gateway.beginLoad]
    · exact .refl _ g
  case bootPageLoad =>
    simp only [effect, Gateway.bootPageLoad]
    repeat' split
    · exact loadPage_allBut g _
    all_goals exact .refl _ g
  case bootLoadEnd =>
    simp only [effect, Gateway.bootLoadEnd]
    repeat' split
    · exact endLoad_allBut g
    all_goals exact .refl _ g
  case tick => exact tick_allBut g
  case lineFaultChange p cause present => exact modPort_allBut_ports g p _
  case transmitStart p point => exact modPort_allBut_ports g p _
  case busIdle p bits =>
    simp only [effect, Gateway.busIdle]
    split
    · exact modPort_allBut_ports g p _
    · exact .refl _ g
  case startBit p =>
    simp only [effect, Gateway.startBit]
    split
    · exact modPort_allBut_ports g p _
    · exact .refl _ g
  case linkUp p =>
    simp only [effect, Gateway.linkUp]
    split
    · refine settled (AllBut.trans ?_ (evalLevel_allBut_endParts _ _ _))
      split
      · exact (modPort_allBut_endParts g p _).trans
          ((promptActive_allBut _ p).mono (portPart_mem_of_both (by decide) (by decide) _))
      · exact modPort_allBut_endParts g p _
    · exact .refl _ g
  case linkDown p =>
    simp only [effect, Gateway.linkDown]
    split
    · exact settled ((modPort_allBut_endParts g p _).trans (evalLevel_allBut_endParts _ _ _))
    · exact .refl _ g
  case receiveCompletion p bytes check =>
    simp only [effect, Gateway.receiveCompletion]
    repeat' split
    · exact (complete_allBut p _ check g).trans ((settle_allBut _).mono (by decide))
    all_goals exact .refl _ g
  case symbolError p => exact abandonFrame_allBut p g
  case lengthOutOfRange p length =>
    simp only [effect, Gateway.lengthOutOfRange]
    split
    · exact abandonFrame_allBut p g
    · exact .refl _ g
  case pauseRx p =>
    simp only [effect, Gateway.pauseRx]
    split
    · exact endPause_allBut p _ g
    · exact .refl _ g
  case endDelimiter p =>
    simp only [effect, Gateway.endDelimiter]
    repeat' split
    · exact endPause_allBut p _ g
    · exact modPort_allBut_endParts g p _
    · exact .refl _ g
  case holdRetest p =>
    simp only [effect, Gateway.holdRetest]
    split
    · exact (((modPort_allBut_endParts g p _).mono (by decide)).trans (retestHold_allBut _ p _ _)).trans
        ((settle_allBut _).mono (by decide))
    · exact .refl _ g
  case holdExpiry p =>
    simp only [effect, Gateway.holdExpiry]
    split
    · exact settled ((answerNak_allBut_endParts g p _ _).trans (latch_allBut_endParts _ _))
    · exact .refl _ g
  case pauseExpiry p =>
    simp only [effect, Gateway.pauseExpiry]
    split
    · exact settled (modPort_allBut_endParts g p _)
    · exact .refl _ g
  case arbLost p =>
    simp only [effect, Gateway.arbLost]
    split
    · exact ((modPort_allBut_ports g p _).mono (by simp [touches])).trans ((bump_allBut _ _ _).mono (by simp [touches]))
    · exact .refl _ g
  case collision p =>
    simp only [effect, Gateway.collision]
    split
    · exact settled ((modPort_allBut_endParts g p _).trans (failAttempt_allBut p _))
    · exact .refl _ g
  case transmitOutcome p slot =>
    simp only [effect, Gateway.transmitOutcome]
    split
    · exact settled ((modPort_allBut_endParts g p _).trans (takeOutcome_allBut p _ _))
    · exact .refl _ g
  case holdBeyondTolerance p =>
    simp only [effect, Gateway.holdBeyondTolerance]
    split
    · exact settled ((modPort_allBut_endParts g p _).trans (failAttempt_allBut p _))
    · exact .refl _ g
  case requestDecode => exact requestDecode_allBut g
  case replyReoffer p =>
    simp only [effect, Gateway.replyReoffer]
    split
    · exact settled ((offerReply_allBut _ g).mono (by decide))
    · exact .refl _ g
  case storeEraseComplete =>
    simp only [effect, Gateway.eraseComplete]
    split
    · exact completed_allBut g _
    · exact .refl _ g
  case storeWriteComplete =>
    simp only [effect, Gateway.writeComplete]
    split
    · exact completed_allBut g _
    · exact .refl _ g

end Sys2Proof.Machine
end

section
/-! SUPPORT. One induction for every invariant that the operations the commands share keep: what follows for the ends
of frames, the selections, the decisions, the attempts, the agent's replies and the run of an operation. -/

open Sys2Proof

namespace Sys2Proof.Machine

/-! ## Predicates that the shared operations keep -/

/-- A predicate of the part that the shared operations keep: the change of a port that leaves its link level, a count, a
flag handed, a move of the pool followed by the re-evaluation of POOL_LOW, and the prompts of a fallen egress count. -/
structure Steady (I : Gateway → Prop) : Prop where
  port : ∀ {g : Gateway} (p : PortId) (q : Port), q.linkUp = (g.port p).linkUp → I g → I (g.setPort p q)
  counters : ∀ {g : Gateway} (i n : Nat), I g → I (g.bump i n)
  restart : ∀ {g : Gateway} (r : RestartState), I g → I { g with restart := r }
  latch : ∀ {g : Gateway} (src : Source), I g → I (g.latch src)
  pool : ∀ {g h : Gateway}, I g → AllBut [.portA, .portB, .free] g h → (∀ x, (h.port x).linkUp = (g.port x).linkUp) →
    I h.evalPool
  prompts : ∀ {g : Gateway} (p : PortId), I g → I (g.promptEgress p)

theorem promptIf_linkUp (c : DecisionRecord → Bool) (q : Port) : (Port.promptIf c q).linkUp = q.linkUp := by
  rw [promptIf_eq]

/-- A change of both ports that keeps each link level keeps the part's. -/
theorem modBoth_linkUp (g : Gateway) (f : Port → Port) (keeps : ∀ q, (f q).linkUp = q.linkUp) (x : PortId) :
    (((g.modPort .a f).modPort .b f).port x).linkUp = (g.port x).linkUp := by
  cases x <;> exact keeps _

theorem promptReturn_linkUp (g : Gateway) (x : PortId) : (g.promptReturn.port x).linkUp = (g.port x).linkUp :=
  modBoth_linkUp g _ (promptIf_linkUp _) x

theorem giveBack_linkUp (g : Gateway) (n : Nat) (x : PortId) : ((g.giveBack n).port x).linkUp = (g.port x).linkUp := by
  unfold Gateway.giveBack
  rw [promptReturn_linkUp]
  cases x <;> rfl

theorem promptEgress_linkUp (g : Gateway) (p x : PortId) : ((g.promptEgress p).port x).linkUp = (g.port x).linkUp := by
  cases p <;> cases x <;> simp [Gateway.promptEgress, Gateway.modPort, promptIf_linkUp]

theorem emptySlot_linkUp (q : Port) : q.emptySlot.linkUp = q.linkUp := rfl

theorem endClaim_linkUp (q : Port) : q.endClaim.linkUp = q.linkUp := by
  unfold Port.endClaim
  split <;> rfl

theorem stopSending_linkUp (q : Port) : q.stopSending.linkUp = q.linkUp := by
  unfold Port.stopSending
  split <;> rfl

theorem flushed_linkUp (q : Port) : q.flushed.linkUp = q.linkUp :=
  (endClaim_linkUp _).trans (stopSending_linkUp q)

theorem dropLink_linkUp (q : Port) : q.dropLink.linkUp = false := by
  unfold Port.dropLink
  dsimp only
  split
  · exact (stopSending_linkUp _).trans (endClaim_linkUp _)
  · rfl

theorem pauseAsk_linkUp (q : Port) : q.pauseAsk.linkUp = q.linkUp := by
  unfold Port.pauseAsk
  repeat' split
  all_goals rfl

theorem enqueue_linkUp (q : Port) (name : QueueName) (b : PoolBuffer) : (q.enqueue name b).linkUp = q.linkUp := by
  cases name <;> rfl

theorem head_linkUp {q r : Port} {e : QueueEntry} (h : q.head = some (e, r)) : r.linkUp = q.linkUp := by
  unfold Port.head at h
  split at h <;> cases h
  all_goals rfl

namespace Steady

variable {I : Gateway → Prop} (steady : Steady I) {g : Gateway}

include steady

theorem modPort (p : PortId) {f : Port → Port} (keeps : (f (g.port p)).linkUp = (g.port p).linkUp) (holds : I g) :
    I (g.modPort p f) :=
  steady.port p _ keeps holds

theorem count (p : PortId) (c : PortCounter) (holds : I g) : I (g.count p c) := steady.counters _ _ holds

theorem countDevice (c : DeviceCounter) (holds : I g) : I (g.countDevice c) := steady.counters _ _ holds

/-! ## Ends of frames and selections -/

/-- Buffers returned, with the prompts that a fallen egress count brings (R49, R53). -/
theorem returned (n : Nat) (p : PortId) (holds : I g) : I ((g.giveBack n).promptEgress p).evalPool := by
  refine steady.pool (steady.prompts p holds) ?_ fun x => ?_
  · refine .of_same fun x => ?_
    cases p <;> cases x <;> simp [Part.Same, Gateway.promptEgress, Gateway.giveBack, Gateway.promptReturn, Gateway.modPort]
  · rw [promptEgress_linkUp, giveBack_linkUp, promptEgress_linkUp]

theorem reportEnd (b : PoolBuffer) (kind : EndKind) (holds : I g) : I (g.reportEnd b kind) := by
  unfold Gateway.reportEnd
  repeat' split
  any_goals exact holds
  · exact steady.restart .due holds
  all_goals exact steady.latch .noticeFailed holds

theorem endTransmission (p : PortId) (kind : EndKind) (holds : I g) : I (g.endTransmission p kind) := by
  have emptied : I (g.modPort p Port.emptySlot) := steady.modPort p (emptySlot_linkUp _) holds
  unfold Gateway.endTransmission
  dsimp only
  split
  · exact steady.reportEnd _ kind (steady.returned 1 p emptied)
  · exact emptied
  · exact emptied

theorem discardAged (p : PortId) (e : QueueEntry) (q : Port) (keeps : q.linkUp = (g.port p).linkUp) (holds : I g) :
    I (g.discardAged p e q) :=
  steady.reportEnd e.buf .aged
    (steady.returned 1 p (steady.latch (.aged p) (steady.count p .aged (steady.port p q keeps holds))))

theorem selectFrame (fuel : Nat) (p : PortId) (holds : I g) : I (Gateway.selectFrame fuel p g) := by
  induction fuel generalizing g with
  | zero => exact holds
  | succ fuel ih =>
    unfold Gateway.selectFrame
    split
    · exact holds
    · rename_i e q head
      have kept : q.linkUp = (g.port p).linkUp := head_linkUp head
      split
      · exact ih (steady.discardAged p e q kept holds)
      · exact steady.port p _ kept holds

theorem takePause (p : PortId) (holds : I g) : I (g.takePause p) := by
  unfold Gateway.takePause
  dsimp only
  repeat' split
  · exact steady.port p _ rfl holds
  · exact steady.port p _ rfl holds
  · exact holds

theorem selectEgress (p : PortId) (holds : I g) : I (g.selectEgress p) := by
  unfold Gateway.selectEgress
  dsimp only
  repeat' split
  · exact steady.selectFrame _ p (steady.takePause p holds)
  · exact steady.takePause p holds
  · exact holds

theorem settle (holds : I g) : I g.settle :=
  steady.selectEgress .b (steady.selectEgress .a (steady.selectEgress .b (steady.selectEgress .a holds)))

/-! ## Attempts -/

theorem failAttempt (p : PortId) (holds : I g) : I (g.failAttempt p) := by
  unfold Gateway.failAttempt
  dsimp only
  split
  · exact steady.modPort p rfl holds
  · exact steady.latch _ (steady.endTransmission p _ (steady.count p _ (steady.modPort p rfl holds)))

theorem takeOutcome (p : PortId) (outcome : TxOutcome) (holds : I g) : I (g.takeOutcome p outcome) := by
  cases outcome
  · exact steady.endTransmission p _ (steady.count p _ holds)
  · exact steady.endTransmission p _ (steady.count p _ holds)
  · exact steady.failAttempt p holds

theorem endPause (p : PortId) (n : Nat) (holds : I g) : I (g.endPause p n) :=
  steady.settle (steady.latch _ (steady.count p _ (steady.modPort p rfl holds)))

theorem abandonFrame (p : PortId) (holds : I g) : I (g.abandonFrame p) := by
  unfold Gateway.abandonFrame
  split
  · exact steady.count p _ (steady.modPort p rfl holds)
  · exact holds

/-! ## Decisions that make no claim -/

theorem answerNak (p : PortId) (r : DecisionRecord) (resp : Response) (holds : I g) : I (g.answerNak p r resp) :=
  steady.count p _ (steady.modPort p rfl holds)

theorem answerAck (p : PortId) (holds : I g) : I (g.answerAck p) :=
  steady.count p _ (steady.modPort p rfl holds)

theorem holdOrBusy (p : PortId) (r : DecisionRecord) (holds : I g) : I (g.holdOrBusy p r) := by
  unfold Gateway.holdOrBusy
  split
  · exact steady.answerNak p r _ holds
  · exact steady.count p _ (steady.modPort p rfl holds)

theorem silent (p : PortId) (r : DecisionRecord) (holds : I g) : I (g.silent p r) :=
  steady.modPort p rfl holds

theorem reportExceed (p : PortId) (r : DecisionRecord) (k : Nat) (holds : I g) : I (g.reportExceed p r k) := by
  unfold Gateway.reportExceed
  split
  · exact holds
  · exact steady.latch _ (steady.counters _ _ (steady.modPort p rfl holds))

/-- A buffer taken for a claim, and POOL_LOW re-evaluated once the claim stands (R47, entry 11). -/
theorem claimForward (p : PortId) (r : DecisionRecord) (f : Frame) (queue : QueueName) (holds : I g) :
    I (g.claimForward p r f queue) := by
  have counted : I (g.count p .claimed) := steady.count p _ holds
  unfold Gateway.claimForward
  dsimp only
  refine steady.pool counted ?_ fun x => ?_
  · refine .of_same fun x => ?_
    cases p <;> cases x <;>
      simp [Part.Same, Gateway.answerAck, Gateway.count, Gateway.bump, Gateway.modPort]
  · cases p <;> cases x <;> simp [Gateway.answerAck, Gateway.modPort, enqueue_linkUp]

end Steady

/-! ## Predicates that the agent's own state and the tables do not enter -/

/-- The parts that a predicate leaves out of account, besides those that `Steady` is about. -/
def asideParts : List Part :=
  [.agentQueue, .exec, .phase, .loadFault, .startCause, .group, .meters, .route, .window]

/-- A steady predicate that neither the agent's queue and execution nor phase, tables and window enter. -/
structure SteadyAside (I : Gateway → Prop) : Prop extends Steady I where
  aside : ∀ {g t : Gateway}, AllBut asideParts g t → I g → I t

theorem promptAgent_linkUp (g : Gateway) (x : PortId) : (g.promptAgent.port x).linkUp = (g.port x).linkUp :=
  modBoth_linkUp g _ (promptIf_linkUp _) x

namespace SteadyAside

variable {I : Gateway → Prop} (steady : SteadyAside I) {g : Gateway}

include steady

theorem agentQueue (l : List AgentEntry) (holds : I g) : I { g with agentQueue := l } :=
  steady.aside (.of_same fun x => by cases x <;> simp [asideParts, Part.Same]) holds

theorem execution (ex : Option Execution) (holds : I g) : I { g with exec := ex } :=
  steady.aside ((execution_allBut g ex).mono (by decide)) holds

theorem beginExecution (holds : I g) : I g.beginExecution := by
  unfold Gateway.beginExecution
  repeat' split
  · exact holds
  · refine steady.toSteady.countDevice _ (steady.aside (.of_same fun x => ?_) holds)
    cases x <;> simp [asideParts, Part.Same]
  · exact holds

theorem promptAgent (holds : I g) : I g.promptAgent :=
  steady.toSteady.modPort .b (promptIf_linkUp _ _) (steady.toSteady.modPort .a (promptIf_linkUp _ _) holds)

theorem discardReply (b : PoolBuffer) (holds : I g) : I (g.discardReply b) := by
  refine steady.toSteady.reportEnd b _ (steady.pool holds ?_ fun x => ?_)
  · exact (giveBack_allBut g 1).trans ((promptAgent_allBut _).mono (by decide))
  · rw [promptAgent_linkUp, giveBack_linkUp]

theorem offerReply (c : AgentEntry → Bool) (holds : I g) : I (g.offerReply c) := by
  unfold Gateway.offerReply
  dsimp only
  repeat' split
  · exact holds
  · exact steady.promptAgent (steady.toSteady.modPort _ (enqueue_linkUp _ _ _) (steady.agentQueue _ holds))
  · exact steady.agentQueue _ holds
  · exact steady.discardReply _ (steady.agentQueue _ holds)

theorem endExecution (ex : Execution) (status : RequestStatus) (holds : I g) : I (g.endExecution ex status) := by
  refine steady.beginExecution (steady.offerReply _ (steady.aside (.of_same fun x => ?_) holds))
  cases x <;> simp [asideParts, Part.Same]

theorem failOp (ex : Execution) (status : OpStatus) (holds : I g) : I (g.failOp ex status) :=
  steady.endExecution _ _ holds

theorem finishOp (ex : Execution) (status : OpStatus) (data : List Byte) (words : Nat) (holds : I g) :
    I (g.finishOp ex status data words) := by
  unfold Gateway.finishOp
  dsimp only
  split
  · exact steady.endExecution _ _ holds
  · exact steady.execution _ holds

theorem beginRestart (ex : Execution) (holds : I g) : I (g.beginRestart ex) :=
  steady.endExecution _ _ (steady.restart _ holds)

/-- An operation keeps a steady predicate when its body does. -/
theorem runOp {full : Bool} {body : Execution → OpOutcome} (leaves : ∀ ex, (body ex).Leaves I) (holds : I g) :
    I (g.runOp full body) :=
  runOp_keeps holds (fun ex status _ => steady.toSteady.settle (steady.failOp ex status holds)) (fun ex _ => leaves ex)
    (fun _ _ _ _ left => steady.execution _ left)
    fun ex _ status data words _ left => steady.toSteady.settle (steady.finishOp ex status data words left)

theorem operation {t : Gateway} (h : OperationStep g t)
    (leaves : ∀ op k ex, g.Runs ex op → ∀ ex, (g.opBody k op ex).Leaves I) (holds : I g) : I t := by
  cases h with
  | idle => exact holds
  | body op k ex runs => exact steady.runOp (leaves op k ex runs) holds
  | restart ex runs access idle => exact steady.toSteady.settle (steady.beginRestart ex holds)

theorem goOffline (p : PortId) (holds : I g) : I (g.goOffline p) := by
  have flushed : I ((g.modPort p Port.flushed).bump (portCounterIndex p .flushed) (g.port p).buffers.length) := by
    exact steady.counters _ _ (steady.toSteady.modPort p (flushed_linkUp _) holds)
  have reports : ∀ (bs : List PoolBuffer) {h : Gateway}, I h → I (bs.foldl (fun g b => g.reportEnd b .flushed) h) := by
    intro bs
    induction bs with
    | nil => exact fun before => before
    | cons b bs ih => exact fun before => ih (steady.toSteady.reportEnd b _ before)
  unfold Gateway.goOffline
  dsimp only
  refine steady.offerReply _ (steady.offerReply _ (reports _ ?_))
  split
  · exact steady.pool flushed (.refl _ _) fun _ => rfl
  · exact steady.toSteady.returned _ p flushed

theorem goOnline (p : PortId) (holds : I g) : I (g.goOnline p) := by
  have online : I (g.modPort p fun q => { q with state := if q.linkUp then .active else .linkDown }) :=
    steady.toSteady.modPort p rfl holds
  unfold Gateway.goOnline
  dsimp only
  split
  · exact steady.toSteady.modPort _ (promptIf_linkUp _ _) online
  · exact online

theorem portWritten (p : PortId) (old : Port) (holds : I g) : I (g.portWritten p old) := by
  have rate : I (if rateCode (g.port p).words.control ≠ rateCode old.words.control then g.modPort p Port.changeRate
      else g) := by
    split
    · refine steady.toSteady.modPort p ?_ holds
      simp only [Port.changeRate, Port.setFault]
      split <;> rfl
    · exact holds
  unfold Gateway.portWritten
  dsimp only
  generalize (if rateCode (g.port p).words.control ≠ rateCode old.words.control then g.modPort p Port.changeRate
    else g) = h at rate ⊢
  repeat' split
  · exact steady.goOnline p rate
  · exact steady.goOffline p rate
  · exact rate

theorem writePort (targets : List (Nat × Word)) (holds : I g) : I (g.writePort targets) := by
  have words : ∀ (targets : List (Nat × Word)) {h : Gateway}, I h → I (targets.foldl Gateway.writePortWord h) := by
    intro targets
    induction targets with
    | nil => exact fun before => before
    | cons iw targets ih => exact fun before => ih (steady.toSteady.modPort _ rfl before)
  exact steady.portWritten .b _ (steady.portWritten .a _ (words targets holds))

theorem requestDecode (holds : I g) : I g.requestDecode := by
  unfold Gateway.requestDecode
  repeat' split
  · exact holds
  · exact steady.toSteady.settle (steady.endExecution _ _ (steady.latch _ (steady.toSteady.countDevice _ holds)))
  · exact steady.execution _ holds
  · exact holds

end SteadyAside

end Sys2Proof.Machine
end

section
/-! SUPPORT. Invariants of the Event Monitor's own state and of what its level conditions read: one structure of what
such an invariant must keep, and the induction over the commands; with it the statement about ALERT and the flags. -/

open Sys2Proof

namespace Sys2Proof.Machine

/-! ## What an invariant of the Event Monitor must keep -/

/-- The parts that change between the claim of a captured frame, or its removal, and the re-evaluation of POOL_LOW. -/
def captureMoveParts : List Part := [.capture, .counters, .portA, .portB, .free]

/-- A steady predicate that also keeps through each change of what the level conditions read, of the masks, of the
flags and of the resets. -/
structure MonitorInvariant (I : Gateway → Prop) : Prop extends SteadyAside I where
  general : ∀ {g : Gateway} (w : General), I g → I ({ g with general := w }).evalPool
  masks : ∀ {g : Gateway} (w0 w1 : Word), I g → I (g.replaceMasks w0 w1)
  clear : ∀ {g : Gateway} (w0 w1 : Word), I g → I (g.clearFlags w0 w1)
  link : ∀ {g h : Gateway} (p : PortId) (v : Bool), I g → AllBut [.portA, .portB] g h → (h.port p).linkUp = v →
    (h.port p.other).linkUp = (g.port p.other).linkUp → I (h.evalLevel (.link p) v)
  capture : ∀ {g h t : Gateway}, I g → AllBut captureMoveParts g h →
    (∀ x, (h.port x).linkUp = (g.port x).linkUp) → h.counters.length = g.counters.length →
    AllBut [.counters] h.evalPool t → t.counters.length = h.counters.length → I t.evalCapture
  storeSteady : ∀ {g : Gateway} (s : Store), s.busy = g.store.busy → I g → I { g with store := s }
  storeStarts : ∀ {g : Gateway} (s : Store), I g → I ({ g with store := s }).evalStoreBusy
  storeCompletes : ∀ {g : Gateway} (s : Store), I g → I (({ g with store := s }).latch .storeDone).evalStoreBusy
  reset : ∀ (g : Gateway) (cause : StartCause), I (g.resetBy cause)

/-- A claim that may find no room keeps what it and the wait keep. -/
theorem getD_claim {I : Gateway → Prop} {claim : Option Gateway} {t : Gateway} (claimed : ∀ h, claim = some h → I h) (waits : I t) :
    I (claim.getD t) := by
  cases found : claim with
  | none => exact waits
  | some h => exact claimed h found

/-- A fold keeps what its step keeps. -/
theorem foldl_keeps {I : Gateway → Prop} {α : Type} {f : Gateway → α → Gateway} (step : ∀ {g : Gateway} a, I g → I (f g a)) (as : List α)
    {g : Gateway} (holds : I g) : I (as.foldl f g) := by
  induction as generalizing g with
  | nil => exact holds
  | cons a as ih => exact ih (step a holds)

namespace MonitorInvariant

variable {I : Gateway → Prop} (inv : MonitorInvariant I) {g : Gateway}

include inv

/-! ## Decisions -/

theorem claimManagement {t : Gateway} {p : PortId} {r : DecisionRecord} {f : Frame} (holds : I g)
    (h : g.claimManagement p r f = some t) : I t := by
  unfold Gateway.claimManagement at h
  split at h
  · cases h
    have claimed : ∀ l, I (({ g with free := g.free - 1, agentQueue := l }).answerAck p).evalPool := by
      intro l
      refine inv.pool (inv.toSteady.answerAck p (inv.agentQueue l holds)) (.of_same fun x => ?_) fun x => ?_
      · cases p <;> cases x <;> simp [Part.Same, Gateway.answerAck, Gateway.count, Gateway.bump, Gateway.modPort]
      · cases p <;> cases x <;> simp [Gateway.answerAck, Gateway.modPort]
    exact inv.beginExecution (claimed _)
  · cases h

theorem claimDivert {t : Gateway} {p : PortId} {r : DecisionRecord} {f : Frame} (holds : I g)
    (h : g.claimDivert p r f = some t) : I t := by
  unfold Gateway.claimDivert at h
  split at h
  · cases h
    refine inv.capture holds ?_ (fun x => ?_) (by simp [Gateway.answerAck, Gateway.count, Gateway.bump]) (.refl _ _)
      (congrArg List.length ((evalPool_allBut _) .counters (by decide)))
    · refine .of_same fun x => ?_
      cases p <;> cases x <;>
        simp [Part.Same, captureMoveParts, Gateway.answerAck, Gateway.count, Gateway.bump, Gateway.modPort]
    · cases p <;> cases x <;> simp [Gateway.answerAck, Gateway.modPort]
  · cases h

theorem debit (k n : Nat) (holds : I g) : I (g.debit k n) :=
  inv.aside ((debit_allBut g k n).mono (by decide)) holds

theorem carryForward (p : PortId) (r : DecisionRecord) (f : Frame) (wait : Gateway → Gateway) (waits : I (wait g))
    (verdict : ForwardVerdict) (holds : I g) : I (g.carryForward p r f wait verdict) := by
  have steady := inv.toSteady
  cases verdict with
  | noCapacity => exact waits
  | pass => exact steady.claimForward p r f _ holds
  | conform k => exact steady.claimForward p r f _ (inv.debit k _ holds)
  | exceed k mode =>
    cases mode with
    | drop => exact steady.reportExceed p r k (steady.answerNak p r _ holds)
    | hold => exact steady.reportExceed p r k waits
    | pause =>
      exact steady.reportExceed p r k (steady.modPort p (pauseAsk_linkUp _) (steady.answerNak p r _ holds))
    | mark => exact steady.reportExceed p r k (steady.claimForward p r f _ holds)

theorem decideForward (p : PortId) (r : DecisionRecord) (f : Frame) (holds : I g) : I (g.decideForward p r f) := by
  have steady := inv.toSteady
  unfold Gateway.decideForward
  repeat' split
  · exact steady.latch _ (steady.countDevice _ (steady.answerNak p r _ holds))
  · exact steady.silent p r holds
  · exact steady.answerNak p r _ holds
  · exact inv.carryForward p r f (·.holdOrBusy p r) (steady.holdOrBusy p r holds) _ holds

theorem decideAction (p : PortId) (r : DecisionRecord) (f : Frame) (holds : I g) : I (g.decideAction p r f) := by
  have steady := inv.toSteady
  unfold Gateway.decideAction
  split
  · exact steady.silent p r holds
  · exact steady.answerNak p r _ holds
  · exact getD_claim (fun _ => inv.claimDivert holds) (steady.holdOrBusy p r holds)
  · exact inv.decideForward p r f holds
  · exact steady.silent p r holds

theorem classify (p : PortId) (f : Frame) (holds : I g) : I (g.classify p f) := by
  have steady := inv.toSteady
  unfold Gateway.classify
  dsimp only
  split
  · exact steady.silent p _ holds
  · split
    · exact getD_claim (fun _ => inv.claimManagement holds) (steady.holdOrBusy p _ holds)
    · rw [decideRoute_eq]
      exact inv.decideAction p _ f (inv.aside ((routeHit_allBut g p f).mono (by decide)) holds)

theorem complete (p : PortId) (f : Frame) (check : Word) (holds : I g) : I (g.complete p f check) := by
  have steady := inv.toSteady
  have staged : I (g.modPort p (·.stage f check)) := steady.modPort p rfl holds
  unfold Gateway.complete
  dsimp only
  repeat' split
  · exact steady.latch _ (steady.count p _ staged)
  · exact steady.count p _ staged
  · exact inv.classify p f (steady.count p _ staged)
  · exact steady.count p _ staged

theorem retestHold (p : PortId) (r : DecisionRecord) (f : Frame) (holds : I g) : I (g.retestHold p r f) := by
  unfold Gateway.retestHold
  repeat' split
  · exact getD_claim (fun _ => inv.claimManagement holds) holds
  · exact getD_claim (fun _ => inv.claimDivert holds) holds
  · exact inv.carryForward p r f id holds _ holds

/-! ## Operations -/

theorem promptMeter (k : Nat) (holds : I g) : I (g.promptMeter k) :=
  inv.toSteady.modPort .b (promptIf_linkUp _ _) (inv.toSteady.modPort .a (promptIf_linkUp _ _) holds)

theorem meters (ms : List Meter) (holds : I g) : I { g with meters := ms } :=
  inv.aside ((meters_allBut g ms).mono (by decide)) holds

theorem writeTable (t : Table) (targets : List (Nat × Word)) (holds : I g) : I (g.writeTable t targets) := by
  cases t
  case port => exact inv.writePort targets holds
  case general => exact inv.general _ holds
  case meter =>
    refine foldl_keeps (fun k holds => ?_) _ (inv.meters _ holds)
    unfold Gateway.meterWritten
    split
    · exact inv.promptMeter k (inv.meters _ holds)
    · exact holds
  all_goals
    refine inv.aside (.of_same fun x => ?_) holds
    cases x <;> simp [asideParts, Part.Same, Gateway.writeTable]

theorem moveWindow (n : Nat) (holds : I g) : I (g.moveWindow n) :=
  inv.aside ((moveWindow_allBut g n).mono (by decide)) holds

theorem dropCapture (holds : I g) : I g.dropCapture := by
  let h := ({ g with capture := g.capture.tail }).giveBack 1
  have moved : AllBut captureMoveParts g h := by
    refine AllBut.trans (h := { g with capture := g.capture.tail }) (.of_same fun x => ?_)
      ((giveBack_allBut _ 1).mono (by decide))
    cases x <;> simp [Part.Same, captureMoveParts]
  have links : ∀ x, (h.port x).linkUp = (g.port x).linkUp := fun x =>
    (giveBack_linkUp _ 1 x).trans (by cases x <;> rfl)
  have gone : I (h.evalPool.countDevice .captureTaken).evalCapture :=
    inv.capture holds moved links (congrArg List.length ((giveBack_allBut _ 1) .counters (by decide))) (bump_allBut _ _ _)
      ((List.length_set ..).trans (congrArg List.length (evalPool_allBut h .counters (by decide))))
  exact inv.toSteady.modPort .b (promptIf_linkUp _ _) (inv.toSteady.modPort .a (promptIf_linkUp _ _) gone)

theorem opBody (k : Nat) (op : Op) (ex : Execution) (holds : I g)
    (clears : ∀ block, op = .countersClear block → I { g with counters := clearBlock g.counters block.toNat }) :
    (g.opBody k op ex).Leaves I := by
  cases op
  case ident => exact readWords_leaves (fun _ => holds) (fun _ => holds) ex _ _ _ _
  case eventsRead => exact readWords_leaves (fun _ => holds) (fun _ => holds) ex _ _ _ _
  case select table index =>
    simp only [Gateway.opBody, Gateway.selectWindow]
    repeat' split
    any_goals trivial
    exact inv.aside (.of_same fun x => by cases x <;> simp [asideParts, Part.Same]) holds
  case read n =>
    simp only [Gateway.opBody, Gateway.readWindow]
    split
    · exact readWords_leaves (fun _ => holds) (fun _ => inv.moveWindow n holds) ex _ _ _ _
    · trivial
  case write ws =>
    simp only [Gateway.opBody, Gateway.writeWindow]
    repeat' split
    any_goals trivial
    exact inv.moveWindow _ (inv.writeTable _ _ holds)
  case groupSet port bins =>
    simp only [Gateway.opBody, Gateway.writeBins]
    split
    · trivial
    · exact inv.aside (.of_same fun x => by cases x <;> simp [asideParts, Part.Same]) holds
  case groupClear port bins =>
    simp only [Gateway.opBody, Gateway.writeBins]
    split
    · trivial
    · exact inv.aside (.of_same fun x => by cases x <;> simp [asideParts, Part.Same]) holds
  case counters block =>
    simp only [Gateway.opBody, Gateway.readBlock]
    split
    · exact readWords_leaves (fun _ => holds) (fun _ => holds) ex _ _ _ _
    · trivial
  case countersClear block =>
    simp only [Gateway.opBody, Gateway.clearCounters]
    split
    · exact clears block rfl
    · trivial
  case eventsClear w0 w1 => exact inv.clear w0 w1 holds
  case eventsMask w0 w1 => exact inv.masks w0 w1 holds
  case captureTake =>
    simp only [Gateway.opBody, Gateway.takeCapture]
    repeat' split
    any_goals trivial
    all_goals exact inv.dropCapture holds
  case storeSelect page word =>
    simp only [Gateway.opBody, Gateway.selectStore]
    repeat' split
    any_goals trivial
    exact inv.storeSteady _ (by unfold Store.select; split <;> rfl) holds
  case storeRead n =>
    have moved : ∀ m, I { g with store := g.store.advance m } := fun m => inv.storeSteady _ rfl holds
    simp only [Gateway.opBody, Gateway.readStore]
    repeat' split
    any_goals trivial
    all_goals exact readWords_leaves moved moved ex _ _ _ _
  case storeFill ws =>
    simp only [Gateway.opBody, Gateway.fillStore]
    repeat' split
    any_goals trivial
    all_goals exact inv.storeSteady _ rfl holds
  case storeStage =>
    simp only [Gateway.opBody, Gateway.stageStore]
    repeat' split
    any_goals trivial
    exact inv.storeSteady _ rfl holds
  case storeErase =>
    simp only [Gateway.opBody, Gateway.startErase]
    repeat' split
    any_goals trivial
    exact inv.storeStarts _ holds
  case storeWrite =>
    simp only [Gateway.opBody, Gateway.startWrite]
    repeat' split
    any_goals trivial
    exact inv.storeStarts _ holds
  case storeStatus =>
    simp only [Gateway.opBody, Gateway.statusStore]
    split
    · exact holds
    · trivial
  case restart => trivial

/-! ## Commands -/

theorem beginLoad (holds : I g) : I g.beginLoad := by
  refine inv.storeSteady (g := { g with phase := .loading 1 }) _ ?_ (inv.aside (.of_same fun x => ?_) holds)
  · unfold Store.markTorn
    split <;> rfl
  · cases x <;> simp [asideParts, Part.Same]

theorem loadPage (n : Nat) (holds : I g) : I (g.loadPage n) := by
  have begun : I (g.pageBegun n) := inv.aside ((pageBegun_allBut g n).mono (by decide)) holds
  rw [loadPage_eq]
  repeat' split
  · unfold Gateway.loadPort
    split <;> exact inv.toSteady.modPort .b rfl (inv.toSteady.modPort .a rfl begun)
  · exact inv.general _ begun
  · exact inv.aside ((loadGroup_allBut _ _).mono (by decide)) begun
  · exact inv.aside ((loadMeters_allBut _ _ _).mono (by decide)) begun
  · exact inv.aside ((loadRoute_allBut _ _ _).mono (by decide)) begun

theorem tick (holds : I g) : I g.tick := by
  unfold Gateway.tick
  split
  · have aged : I ((g.modPort .a Port.tick).modPort .b Port.tick) :=
      inv.toSteady.modPort .b rfl (inv.toSteady.modPort .a rfl holds)
    refine inv.storeSteady _ ?_ (foldl_keeps (fun k holds => ?_) _ aged)
    · unfold Store.tick
      split <;> rfl
    · unfold Gateway.refill
      dsimp only
      split
      · exact inv.promptMeter k (inv.meters _ holds)
      · exact inv.meters _ holds
  · exact holds

/-- What the structure asks for is enough for every command but the clear of counters and the end of the Boot Load. -/
theorem effect_keeps (c : Instr) (holds : I g)
    (clears : ∀ block : Byte, I { g with counters := clearBlock g.counters block.toNat })
    (ends : c = .bootLoadEnd → I g.endLoad) : I (effect c g) := by
  have steady := inv.toSteady
  cases operation : runsOperation c
  case true =>
    exact inv.operation (effect_operationStep c g operation)
      (fun op k _ _ ex => inv.opBody k op ex holds fun block _ => clears block) holds
  case false =>
    cases c <;> first | (cases operation; done) | skip
    case powerOnReset => exact inv.reset g _
    case lineReset => exact inv.reset g _
    case requestReset =>
      simp only [effect, Gateway.requestReset]
      split
      · exact inv.beginLoad (inv.reset g _)
      · exact holds
    case resetRelease =>
      simp only [effect, Gateway.resetRelease]
      split
      · exact inv.beginLoad holds
      · exact holds
    case bootPageLoad =>
      simp only [effect, Gateway.bootPageLoad]
      repeat' split
      · exact inv.loadPage _ holds
      all_goals exact holds
    case bootLoadEnd =>
      simp only [effect, Gateway.bootLoadEnd]
      repeat' split
      · exact ends rfl
      all_goals exact holds
    case tick => exact inv.tick holds
    case lineFaultChange p cause present =>
      simp only [effect, Gateway.lineFaultChange]
      refine steady.modPort p ?_ holds
      unfold Port.setFault
      cases cause <;> dsimp only <;> split <;> rfl
    case transmitStart p point =>
      simp only [effect, Gateway.transmitStart]
      refine steady.modPort p ?_ holds
      unfold Port.advance
      split <;> try split
      all_goals rfl
    case busIdle p bits =>
      simp only [effect, Gateway.busIdle]
      split
      · exact steady.modPort p rfl holds
      · exact holds
    case startBit p =>
      simp only [effect, Gateway.startBit]
      split
      · refine steady.modPort p ?_ holds
        unfold Port.startBit
        split <;> rfl
      · exact holds
    case linkUp p =>
      simp only [effect, Gateway.linkUp]
      split
      · refine steady.settle (inv.link p true holds ?_ ?_ ?_)
        · split
          · exact (modPort_allBut_ports g p _).trans ((promptActive_allBut _ p).mono (by cases p <;> decide))
          · exact modPort_allBut_ports g p _
        · split <;> simp [Gateway.promptActive, Port.raiseLink]
        · split <;> simp [Gateway.promptActive, promptIf_linkUp]
      · exact holds
    case linkDown p =>
      simp only [effect, Gateway.linkDown]
      split
      · refine steady.settle (inv.link p false holds (modPort_allBut_ports g p _) ?_ (by simp))
        rw [Gateway.port_modPort_self, dropLink_linkUp]
      · exact holds
    case receiveCompletion p bytes check =>
      simp only [effect, Gateway.receiveCompletion]
      repeat' split
      · exact steady.settle (inv.complete p _ check holds)
      all_goals exact holds
    case symbolError p => exact steady.abandonFrame p holds
    case lengthOutOfRange p length =>
      simp only [effect, Gateway.lengthOutOfRange]
      split
      · exact steady.abandonFrame p holds
      · exact holds
    case pauseRx p =>
      simp only [effect, Gateway.pauseRx]
      split
      · exact steady.endPause p _ holds
      · exact holds
    case endDelimiter p =>
      simp only [effect, Gateway.endDelimiter]
      repeat' split
      · exact steady.endPause p _ holds
      · exact steady.modPort p rfl holds
      · exact holds
    case holdRetest p =>
      simp only [effect, Gateway.holdRetest]
      split
      · refine steady.settle (inv.retestHold p _ _ (steady.modPort p ?_ holds))
        unfold Port.takeRetest
        split <;> rfl
      · exact holds
    case holdExpiry p =>
      simp only [effect, Gateway.holdExpiry]
      split
      · exact steady.settle (steady.latch _ (steady.answerNak p _ _ holds))
      · exact holds
    case pauseExpiry p =>
      simp only [effect, Gateway.pauseExpiry]
      split
      · exact steady.settle (steady.modPort p rfl holds)
      · exact holds
    case arbLost p =>
      simp only [effect, Gateway.arbLost]
      split
      · exact steady.count p _ (steady.modPort p rfl holds)
      · exact holds
    case collision p =>
      simp only [effect, Gateway.collision]
      split
      · exact steady.settle (steady.failAttempt p (steady.modPort p rfl holds))
      · exact holds
    case transmitOutcome p slot =>
      simp only [effect, Gateway.transmitOutcome]
      split
      · exact steady.settle (steady.takeOutcome p _ (steady.modPort p rfl holds))
      · exact holds
    case holdBeyondTolerance p =>
      simp only [effect, Gateway.holdBeyondTolerance]
      split
      · exact steady.settle (steady.failAttempt p (steady.modPort p rfl holds))
      · exact holds
    case requestDecode => exact inv.requestDecode holds
    case replyReoffer p =>
      simp only [effect, Gateway.replyReoffer]
      split
      · exact steady.settle (inv.offerReply _ holds)
      · exact holds
    case storeEraseComplete =>
      simp only [effect, Gateway.eraseComplete]
      split
      · exact steady.settle (inv.storeCompletes _ holds)
      · exact holds
    case storeWriteComplete =>
      simp only [effect, Gateway.writeComplete]
      split
      · exact steady.settle (inv.storeCompletes _ holds)
      · exact holds

end MonitorInvariant

end Sys2Proof.Machine
end

section
/-! SUPPORT. ALERT and the flags without a source (R169, R176, R189): both are invariants of the Event Monitor. -/

open Sys2Proof

namespace Sys2Proof.Machine

/-! ## ALERT (R176) -/

theorem AlertOk.of_allBut {l : List Part} {g t : Gateway} (frame : AllBut l g t) (monitor : .monitor ∉ l)
    (general : .general ∉ l) (h : g.AlertOk) : t.AlertOk := by
  have m : t.monitor = g.monitor := frame .monitor monitor
  have w : t.general = g.general := frame .general general
  simpa only [Gateway.AlertOk, Gateway.asserts, m, w] using h

theorem alertOk_steadyAside : SteadyAside Gateway.AlertOk where
  port p q _ := AlertOk.of_allBut (setPort_allBut _ p q) (by cases p <;> decide) (by cases p <;> decide)
  counters i n := AlertOk.of_allBut (bump_allBut _ i n) (by decide) (by decide)
  restart _ h := h
  latch src _ := alertEval_alertOk _
  pool _ _ _ := alertEval_alertOk _
  prompts p := AlertOk.of_allBut (promptEgress_allBut _ p) (by decide) (by decide)
  aside frame := AlertOk.of_allBut frame (by decide) (by decide)

/-- ALERT is right after every change of flags and masks, since each ends in its re-evaluation (R176). -/
theorem alertOk_invariant : MonitorInvariant Gateway.AlertOk where
  toSteadyAside := alertOk_steadyAside
  general _ _ := alertEval_alertOk _
  masks _ _ _ := alertEval_alertOk _
  clear _ _ _ := alertEval_alertOk _
  link _ _ _ _ _ _ := alertEval_alertOk _
  capture _ _ _ _ _ _ := alertEval_alertOk _
  storeSteady _ _ h := h
  storeStarts _ _ := alertEval_alertOk _
  storeCompletes _ _ := alertEval_alertOk _
  reset _ _ := by
    show false = Monitor.asserts ⟨0, 0, _, _⟩ _ _
    simp [Monitor.asserts, Monitor.unmasked0, Monitor.unmasked1]

/-! ## The end of the Boot Load -/

/-- The part as the Boot Load ends, before the two faults are handed (R117, R164, R165). -/
def Gateway.started (g : Gateway) : Gateway :=
  (({ g with
    phase := .running
    loadFault := false
    route := settleRoute g.store g.route
    meters := g.meters.map Meter.started
    store := { g.store with inFlight := none } }).modPort .a Port.leaveStarting).modPort .b Port.leaveStarting

/-- An occurrence handed where it is due. -/
def Gateway.latchIf (g : Gateway) (due : Bool) (src : Source) : Gateway :=
  if due then g.latch src else g

theorem endLoad_eq (g : Gateway) :
    g.endLoad = (g.started.latchIf g.store.inFlight.isSome .storeFault).latchIf g.loadFault .loadFault := rfl

theorem started_allBut (g : Gateway) :
    AllBut [.phase, .loadFault, .portA, .portB, .meters, .route, .store] g g.started := by
  refine AllBut.trans (.of_same fun x => ?_) ((modBoth_allBut _ _ _).mono (by decide))
  cases x <;> simp [Part.Same]

theorem latchIf_keeps {I : Gateway → Prop} (latch : ∀ {g : Gateway} (src : Source), I g → I (g.latch src))
    {g : Gateway} (due : Bool) (src : Source) (holds : I g) : I (g.latchIf due src) := by
  cases due
  · exact holds
  · exact latch src holds

/-- What a latch keeps, and the settled part meets, the end of the Boot Load leaves. -/
theorem endLoad_keeps {I : Gateway → Prop} (latch : ∀ {g : Gateway} (src : Source), I g → I (g.latch src))
    {g : Gateway} (started : I g.started) : I g.endLoad := by
  rw [endLoad_eq]
  exact latchIf_keeps latch _ _ (latchIf_keeps latch _ _ started)

theorem alertOk_kept : Kept Gateway.AlertOk :=
  kept_of_effect fun c g holds => alertOk_invariant.effect_keeps c holds (fun _ => holds) fun _ =>
    endLoad_keeps (fun _ _ => alertEval_alertOk _) (AlertOk.of_allBut (started_allBut g) (by decide) (by decide) holds)

/-! ## Flags without a source (R169, R189) -/

/-- No source's flag stands at a position that belongs to none. -/
theorem source_masks (src : Source) : src.mask0 &&& 0xF000 = 0 ∧ src.mask1 &&& 0xFC00 = 0 := by
  rcases src with ⟨_ | _⟩ | ⟨_ | _⟩ | ⟨_ | _⟩ | ⟨_ | _⟩ | ⟨_ | _⟩ | ⟨_ | _⟩ | _ | _ | _ | _ | _ | _ | _ | _ | _ | _ <;>
    decide

theorem or_and_eq_zero {a b mask : Word} (ha : a &&& mask = 0) (hb : b &&& mask = 0) : (a ||| b) &&& mask = 0 := by
  rw [BitVec.and_comm, BitVec.and_or_distrib_left, BitVec.and_comm mask a, BitVec.and_comm mask b, ha, hb]
  rfl

theorem and_and_eq_zero {a mask : Word} (b : Word) (ha : a &&& mask = 0) : a &&& b &&& mask = 0 := by
  rw [BitVec.and_assoc, BitVec.and_comm b, ← BitVec.and_assoc, ha]
  exact BitVec.zero_and

theorem setFlag_flagsOk {g : Gateway} (src : Source) (h : g.FlagsOk) : (g.setFlag src).FlagsOk :=
  ⟨or_and_eq_zero h.1 (source_masks src).1, or_and_eq_zero h.2 (source_masks src).2⟩

theorem flagsOk_of_monitor_eq {g t : Gateway} (m : t.monitor = g.monitor) (h : g.FlagsOk) : t.FlagsOk := by
  simpa only [Gateway.FlagsOk, m] using h

theorem flagsOk_of_allBut {l : List Part} {g t : Gateway} (frame : AllBut l g t) (monitor : .monitor ∉ l)
    (h : g.FlagsOk) : t.FlagsOk :=
  flagsOk_of_monitor_eq (frame .monitor monitor) h

theorem handLevel_flagsOk {g : Gateway} (c : Level) (v : Bool) (h : g.FlagsOk) : (g.handLevel c v).FlagsOk := by
  simp only [Gateway.FlagsOk, Gateway.monitor_handLevel, Monitor.handLevel]
  repeat' split
  · exact h
  · exact setFlag_flagsOk c.source h
  · exact h

theorem poolEval_flagsOk {g : Gateway} (h : g.FlagsOk) : g.poolEval.FlagsOk :=
  flagsOk_of_monitor_eq (poolEval_monitor g) (handLevel_flagsOk .poolLow g.poolLow h)

theorem noticeAsk_flagsOk {g : Gateway} (h : g.FlagsOk) : g.noticeAsk.FlagsOk := by
  unfold Gateway.noticeAsk
  dsimp only
  repeat' split
  · exact h
  · exact poolEval_flagsOk (flagsOk_of_monitor_eq (by simp) h)
  · exact setFlag_flagsOk _ h

theorem alertEval_flagsOk {g : Gateway} (h : g.FlagsOk) : g.alertEval.FlagsOk := by
  unfold Gateway.alertEval
  dsimp only
  split
  · exact noticeAsk_flagsOk h
  · exact h

theorem latch_flagsOk {g : Gateway} (src : Source) (h : g.FlagsOk) : (g.latch src).FlagsOk :=
  alertEval_flagsOk (setFlag_flagsOk src h)

theorem evalLevel_flagsOk {g : Gateway} (c : Level) (v : Bool) (h : g.FlagsOk) : (g.evalLevel c v).FlagsOk :=
  alertEval_flagsOk (handLevel_flagsOk c v h)

theorem evalPool_flagsOk {g : Gateway} (h : g.FlagsOk) : g.evalPool.FlagsOk := alertEval_flagsOk (poolEval_flagsOk h)

theorem replaceMasks_flagsOk {g : Gateway} (w0 w1 : Word) (h : g.FlagsOk) : (g.replaceMasks w0 w1).FlagsOk := by
  unfold Gateway.replaceMasks
  exact alertEval_flagsOk h

theorem clearFlags_flagsOk {g : Gateway} (w0 w1 : Word) (h : g.FlagsOk) : (g.clearFlags w0 w1).FlagsOk := by
  unfold Gateway.clearFlags
  exact alertEval_flagsOk ⟨and_and_eq_zero _ h.1, and_and_eq_zero _ h.2⟩

theorem evalStoreBusy_flagsOk {g : Gateway} (h : g.FlagsOk) : g.evalStoreBusy.FlagsOk := by
  unfold Gateway.evalStoreBusy
  exact evalLevel_flagsOk _ _ h

theorem evalCapture_flagsOk {g : Gateway} (h : g.FlagsOk) : g.evalCapture.FlagsOk := by
  unfold Gateway.evalCapture
  exact evalLevel_flagsOk _ _ h

theorem store_flagsOk {g : Gateway} (s : Store) (h : g.FlagsOk) : ({ g with store := s }).FlagsOk := h

theorem flagsOk_steadyAside : SteadyAside Gateway.FlagsOk where
  port p q _ := flagsOk_of_allBut (setPort_allBut _ p q) (by cases p <;> decide)
  counters _ _ h := h
  restart _ h := h
  latch := latch_flagsOk
  pool h frame _ := evalPool_flagsOk (flagsOk_of_allBut frame (by decide) h)
  prompts p := flagsOk_of_allBut (promptEgress_allBut _ p) (by decide)
  aside frame := flagsOk_of_allBut frame (by decide)

theorem flagsOk_invariant : MonitorInvariant Gateway.FlagsOk where
  toSteadyAside := flagsOk_steadyAside
  general w h := evalPool_flagsOk (flagsOk_of_monitor_eq rfl h)
  masks := replaceMasks_flagsOk
  clear := clearFlags_flagsOk
  link p v h frame _ _ := evalLevel_flagsOk _ v (flagsOk_of_allBut frame (by decide) h)
  capture h frame _ _ counted _ := evalCapture_flagsOk
    (flagsOk_of_allBut counted (by decide) (evalPool_flagsOk (flagsOk_of_allBut frame (by decide) h)))
  storeSteady s _ := store_flagsOk s
  storeStarts s h := evalStoreBusy_flagsOk (store_flagsOk s h)
  storeCompletes s h := evalStoreBusy_flagsOk (latch_flagsOk .storeDone (store_flagsOk s h))
  reset _ _ := by
    show (0 : Word) &&& 0xF000 = 0 ∧ (0 : Word) &&& 0xFC00 = 0
    decide

theorem flagsOk_kept : Kept Gateway.FlagsOk :=
  kept_of_effect fun c g holds => flagsOk_invariant.effect_keeps c holds (fun _ => holds) fun _ =>
    endLoad_keeps latch_flagsOk (flagsOk_of_allBut (started_allBut g) (by decide) holds)

/-- Settles O54: every change of flags or masks ends in a re-evaluation of ALERT, and what latches is always a source's
own flag. -/
theorem alertKept : Obligations.AlertKept := ⟨alertOk_kept, flagsOk_kept⟩

end Sys2Proof.Machine
end

section
/-! SUPPORT. The level history (R169, R171) and the store (R147 to R151, R165): both stay in step with the part. -/

open Sys2Proof

namespace Sys2Proof.Machine

/-! ## Levels (R50, R134, R171) -/

/-- The present level of a condition. -/
def Gateway.level (g : Gateway) : Level → Bool
  | .link p => (g.port p).linkUp
  | .poolLow => g.poolLow
  | .capturePending => !g.capture.isEmpty
  | .storeBusy => g.store.busy

/-- The history holds the present level of one condition. -/
def LevelOk (c : Level) (g : Gateway) : Prop :=
  g.monitor.history.get c = g.level c

theorem levelsOk_iff (g : Gateway) : g.LevelsOk ↔ ∀ c, LevelOk c g := by
  constructor
  · intro h c
    have same : g.monitor.history = _ := h
    rcases c with ⟨_ | _⟩ | _ | _ | _ <;> simp [LevelOk, same, Levels.get, Gateway.level]
  · intro h
    have a := h (.link .a)
    have b := h (.link .b)
    have pool := h .poolLow
    have capture := h .capturePending
    have store := h .storeBusy
    simp only [LevelOk, Levels.get, Gateway.level, Gateway.port_a, Gateway.port_b] at a b pool capture store
    simp only [Gateway.LevelsOk, ← a, ← b, ← pool, ← capture, ← store]

/-- An evaluation of a condition records its level and no other. -/
theorem handLevel_get (m : Monitor) (edges : Word) (c d : Level) (v : Bool) :
    (m.handLevel edges c v).history.get d = if d = c then v else m.history.get d := by
  have recorded : (m.history.set c v).get d = if d = c then v else m.history.get d := by
    rcases c with ⟨_ | _⟩ | _ | _ | _ <;> rcases d with ⟨_ | _⟩ | _ | _ | _ <;> rfl
  unfold Monitor.handLevel
  split
  · rename_i same
    split
    · rename_i eq
      rw [eq, same]
    · rfl
  · dsimp only
    split <;> exact recorded

/-! ## Link levels are left alone by what a flag brings -/

theorem poolEval_linkUp (g : Gateway) (x : PortId) : (g.poolEval.port x).linkUp = (g.port x).linkUp := by
  unfold Gateway.poolEval
  dsimp only
  split
  · exact (modBoth_linkUp _ _ pauseAsk_linkUp x).trans (by simp)
  · simp

theorem noticeAsk_linkUp (g : Gateway) (x : PortId) : (g.noticeAsk.port x).linkUp = (g.port x).linkUp := by
  unfold Gateway.noticeAsk
  dsimp only
  repeat' split
  · rfl
  · rw [poolEval_linkUp]
    cases ingress : g.noticeBuffer.ingress <;> cases x <;> simp [Gateway.modPort, enqueue_linkUp]
  · simp

theorem alertEval_linkUp (g : Gateway) (x : PortId) : (g.alertEval.port x).linkUp = (g.port x).linkUp := by
  unfold Gateway.alertEval
  dsimp only
  split
  · exact (noticeAsk_linkUp _ x).trans (by cases x <;> rfl)
  · cases x <;> rfl

/-- A level that no part of the list enters is the same. -/
theorem level_of_allBut {l : List Part} {g t : Gateway} (frame : AllBut l g t) (c : Level)
    (links : ∀ x, (t.port x).linkUp = (g.port x).linkUp) (pool : c = .poolLow → .free ∉ l ∧ .general ∉ l)
    (capture : c = .capturePending → .capture ∉ l) (store : c = .storeBusy → .store ∉ l) : t.level c = g.level c := by
  cases c with
  | link p => exact links p
  | poolLow =>
    have free : t.free = g.free := frame .free (pool rfl).1
    have general : t.general = g.general := frame .general (pool rfl).2
    simp [Gateway.level, Gateway.poolLow, free, general]
  | capturePending =>
    have same : t.capture = g.capture := frame .capture (capture rfl)
    simp [Gateway.level, same]
  | storeBusy =>
    have same : t.store = g.store := frame .store (store rfl)
    simp [Gateway.level, same]

theorem levelOk_of_same {c : Level} {g t : Gateway} (monitor : t.monitor = g.monitor) (level : t.level c = g.level c)
    (h : LevelOk c g) : LevelOk c t := by
  rw [LevelOk, monitor, level]
  exact h

/-- A frame that leaves the Event Monitor and what the condition reads keeps its level recorded. -/
theorem levelOk_of_allBut {l : List Part} {g t : Gateway} {c : Level} (frame : AllBut l g t) (monitor : .monitor ∉ l)
    (links : ∀ x, (t.port x).linkUp = (g.port x).linkUp) (pool : c = .poolLow → .free ∉ l ∧ .general ∉ l)
    (capture : c = .capturePending → .capture ∉ l) (store : c = .storeBusy → .store ∉ l) (h : LevelOk c g) :
    LevelOk c t :=
  levelOk_of_same (frame .monitor monitor) (level_of_allBut frame c links pool capture store) h

/-! ## What a flag, with the notice it may ask for, leaves of the recorded levels (R170, R177) -/

theorem alertEval_levelOk {c : Level} {g : Gateway} (h : LevelOk c g) : LevelOk c g.alertEval := by
  by_cases pool : c = .poolLow
  · subst pool
    show g.alertEval.monitor.history.poolLow = g.alertEval.poolLow
    rw [alertEval_history g h]
  · have history : g.alertEval.monitor.history.get c = g.monitor.history.get c := by
      have asked : ∀ g : Gateway, g.noticeAsk.monitor.history.get c = g.monitor.history.get c := by
        intro g
        unfold Gateway.noticeAsk
        dsimp only
        repeat' split
        · rfl
        · rw [poolEval_monitor, handLevel_get, if_neg pool]
          simp
        · rfl
      unfold Gateway.alertEval
      dsimp only
      split
      · exact asked _
      · rfl
    rw [LevelOk, history, level_of_allBut (alertEval_allBut g) c (alertEval_linkUp g) (fun e => absurd e pool)
      (fun _ => by decide) (fun _ => by decide)]
    exact h

theorem setFlag_levelOk {c : Level} {g : Gateway} (src : Source) (h : LevelOk c g) : LevelOk c (g.setFlag src) := by
  have level : (g.setFlag src).level c = g.level c := by
    cases c with
    | link p => cases p <;> rfl
    | _ => rfl
  rw [LevelOk, level]
  exact h

theorem latch_levelOk {c : Level} {g : Gateway} (src : Source) (h : LevelOk c g) : LevelOk c (g.latch src) :=
  alertEval_levelOk (setFlag_levelOk src h)

/-- An evaluation of a condition with its present level leaves that level recorded, and keeps every other. -/
theorem evalLevel_levelOk {c d : Level} {g : Gateway} {v : Bool} (level : d = c → v = g.level c)
    (h : d ≠ c → LevelOk d g) : LevelOk d (g.evalLevel c v) := by
  refine alertEval_levelOk ?_
  have same : (g.handLevel c v).level d = g.level d := by
    cases d with
    | link p => cases p <;> rfl
    | _ => rfl
  rw [LevelOk, same, Gateway.monitor_handLevel, handLevel_get]
  split
  · rename_i eq
    rw [level eq, eq]
  · rename_i other
    exact h other

/-- A re-evaluation of POOL_LOW leaves its level recorded, and keeps every other. -/
theorem evalPool_levelOk {c : Level} {g : Gateway} (h : c ≠ .poolLow → LevelOk c g) : LevelOk c g.evalPool := by
  by_cases pool : c = .poolLow
  · subst pool
    show g.evalPool.monitor.history.poolLow = g.evalPool.poolLow
    rw [evalPool_history g]
  · refine alertEval_levelOk ?_
    have level := level_of_allBut (poolEval_allBut g) c (poolEval_linkUp g) (fun e => absurd e pool)
      (fun _ => by decide) (fun _ => by decide)
    rw [LevelOk, level, poolEval_monitor, handLevel_get, if_neg pool]
    exact h pool

theorem setPort_linkUp {g : Gateway} {p : PortId} {q : Port} (keeps : q.linkUp = (g.port p).linkUp) (x : PortId) :
    ((g.setPort p q).port x).linkUp = (g.port x).linkUp := by
  rcases PortId.eq_or_other p x with rfl | rfl
  · simpa using keeps
  · simp

theorem levelOk_steadyAside (c : Level) : SteadyAside (LevelOk c) where
  port p q keeps := levelOk_of_allBut (setPort_allBut _ p q) (by cases p <;> decide) (setPort_linkUp keeps)
    (fun _ => by cases p <;> decide) (fun _ => by cases p <;> decide) (fun _ => by cases p <;> decide)
  counters i n := levelOk_of_allBut (bump_allBut _ i n) (by decide) (by simp) (fun _ => by decide)
    (fun _ => by decide) (fun _ => by decide)
  restart {g} r := levelOk_of_same (g := g) rfl (by cases c with | link p => cases p <;> rfl | _ => rfl)
  latch := latch_levelOk
  pool h frame links := evalPool_levelOk fun pool => levelOk_of_allBut frame (by decide) links
    (fun e => absurd e pool) (fun _ => by decide) (fun _ => by decide) h
  prompts p := levelOk_of_allBut (promptEgress_allBut _ p) (by decide) (promptEgress_linkUp _ p)
    (fun _ => by decide) (fun _ => by decide) (fun _ => by decide)
  aside frame := by
    have a := frame .portA (by decide)
    have b := frame .portB (by decide)
    simp only [Part.Same] at a b
    exact levelOk_of_allBut frame (by decide) (fun x => by cases x <;> simp [a, b])
      (fun _ => by decide) (fun _ => by decide) (fun _ => by decide)

theorem evalStoreBusy_levelOk {c : Level} {g : Gateway} (h : c ≠ .storeBusy → LevelOk c g) :
    LevelOk c g.evalStoreBusy :=
  evalLevel_levelOk (fun _ => rfl) h

theorem evalCapture_levelOk {c : Level} {g : Gateway} (h : c ≠ .capturePending → LevelOk c g) :
    LevelOk c g.evalCapture :=
  evalLevel_levelOk (fun _ => rfl) h

theorem store_level (g : Gateway) (s : Store) {c : Level} (other : c = .storeBusy → s.busy = g.store.busy) :
    ({ g with store := s }).level c = g.level c := by
  cases c with
  | link p => cases p <;> rfl
  | storeBusy => exact other rfl
  | poolLow => rfl
  | capturePending => rfl

theorem store_levelOk {g : Gateway} (s : Store) {c : Level} (other : c = .storeBusy → s.busy = g.store.busy)
    (h : LevelOk c g) : LevelOk c { g with store := s } :=
  levelOk_of_same (g := g) rfl (store_level g s other) h

theorem general_levelOk {g : Gateway} (w : General) {c : Level} (other : c = .poolLow → w.pool = g.general.pool)
    (h : LevelOk c g) : LevelOk c { g with general := w } := by
  refine levelOk_of_same (g := g) rfl ?_ h
  cases c with
  | link p => cases p <;> rfl
  | poolLow =>
    show decide (g.free ≤ poolMarkOf w.pool) = decide (g.free ≤ poolMarkOf g.general.pool)
    rw [other rfl]
  | capturePending => rfl
  | storeBusy => rfl

theorem replaceMasks_levelOk {c : Level} {g : Gateway} (w0 w1 : Word) (h : LevelOk c g) :
    LevelOk c (g.replaceMasks w0 w1) := by
  unfold Gateway.replaceMasks
  exact alertEval_levelOk (general_levelOk _ (fun _ => rfl) h)

theorem clearFlags_levelOk {c : Level} {g : Gateway} (w0 w1 : Word) (h : LevelOk c g) :
    LevelOk c (g.clearFlags w0 w1) := by
  unfold Gateway.clearFlags
  refine alertEval_levelOk ?_
  have level : ({ g with monitor := g.monitor.clear w0 w1 }).level c = g.level c := by
    cases c with
    | link p => cases p <;> rfl
    | _ => rfl
  rw [LevelOk, level]
  exact h

theorem resetBy_levelOk (c : Level) (g : Gateway) (cause : StartCause) : LevelOk c (g.resetBy cause) := by
  have high : decide (32 ≤ General.reset.poolMark) = false := by decide
  rcases c with ⟨_ | _⟩ | _ | _ | _
  case poolLow => exact high.symm
  all_goals rfl

/-- Each level stays recorded: what changes it ends in its own evaluation (R171). -/
theorem levelOk_invariant (c : Level) : MonitorInvariant (LevelOk c) where
  toSteadyAside := levelOk_steadyAside c
  general w h := evalPool_levelOk fun other => general_levelOk w (fun pool => absurd pool other) h
  masks := replaceMasks_levelOk
  clear := clearFlags_levelOk
  link {g t} p v h frame own others := evalLevel_levelOk (fun _ => own.symm) fun other => by
    refine levelOk_of_same (frame .monitor (by decide)) ?_ h
    cases c with
    | link q =>
      obtain rfl : q = p.other := (PortId.eq_or_other p q).resolve_left fun same => other (by rw [same])
      exact others
    | poolLow =>
      have free : t.free = g.free := frame .free (by decide)
      have general : t.general = g.general := frame .general (by decide)
      simp [Gateway.level, Gateway.poolLow, free, general]
    | capturePending =>
      have capture : t.capture = g.capture := frame .capture (by decide)
      simp [Gateway.level, capture]
    | storeBusy =>
      have store : t.store = g.store := frame .store (by decide)
      simp [Gateway.level, store]
  capture {g h t} holds frame links _ counted _ := evalCapture_levelOk fun other => by
    have evaluated : LevelOk c h.evalPool := evalPool_levelOk fun pool => levelOk_of_allBut frame (by decide) links
      (fun e => absurd e pool) (fun e => absurd e other) (fun _ => by decide) holds
    have a := counted .portA (by decide)
    have b := counted .portB (by decide)
    simp only [Part.Same] at a b
    exact levelOk_of_allBut counted (by decide) (fun x => by cases x <;> simp [a, b])
      (fun _ => by decide) (fun _ => by decide) (fun _ => by decide) evaluated
  storeSteady s same := store_levelOk s fun _ => same
  storeStarts s h := evalStoreBusy_levelOk fun other => store_levelOk s (fun e => absurd e other) h
  storeCompletes s h := evalStoreBusy_levelOk fun other =>
    latch_levelOk .storeDone (store_levelOk s (fun e => absurd e other) h)
  reset := resetBy_levelOk c

/-- The ports leave STARTING with the link level they had there: down (R23, R165). -/
theorem started_linkUp {g : Gateway} (down : ∀ x, (g.port x).linkUp = false) (x : PortId) :
    (g.started.port x).linkUp = (g.port x).linkUp := by
  rw [down x]
  cases x <;> rfl

theorem started_levelOk {c : Level} {g : Gateway} (down : ∀ x, (g.port x).linkUp = false) (h : LevelOk c g) :
    LevelOk c g.started := by
  refine levelOk_of_same (started_allBut g .monitor (by decide)) ?_ h
  cases c with
  | link p => exact started_linkUp down p
  | poolLow => rfl
  | capturePending => rfl
  | storeBusy => rfl

theorem effect_levelsOk {c : Instr} {g : Gateway} (down : g.phase ≠ .running → ∀ x, (g.port x).linkUp = false)
    (loading : c = .bootLoadEnd → effect c g = g ∨ g.phase ≠ .running) (holds : g.LevelsOk) :
    (effect c g).LevelsOk := by
  rw [levelsOk_iff] at holds ⊢
  intro level
  by_cases ends : c = .bootLoadEnd
  · rcases loading ends with same | phase
    · rw [same]
      exact holds level
    · exact (levelOk_invariant level).effect_keeps c (holds level) (fun _ => levelOk_of_same (g := g) rfl
        (by cases level with | link p => cases p <;> rfl | _ => rfl) (holds level))
        fun _ => endLoad_keeps latch_levelOk (started_levelOk (down phase) (holds level))
  · exact (levelOk_invariant level).effect_keeps c (holds level) (fun _ => levelOk_of_same (g := g) rfl
      (by cases level with | link p => cases p <;> rfl | _ => rfl) (holds level)) fun e => absurd e ends

end Sys2Proof.Machine
end

section
/-! SUPPORT. The store through every command (R147 to R155, R160, R161, R165), and with it the statement about levels
and store. -/

open Sys2Proof

namespace Sys2Proof.Machine

/-! ## What the operations leave of the store -/

theorem busy_eq_false_iff (s : Store) : s.busy = false ↔ s.state = .sIdle := by
  simp [Store.busy]

/-- The sizes and ranges of a store, whatever it does. -/
def Store.Sized (s : Store) : Prop :=
  s.pages.length = 64 ∧ (∀ page ∈ s.pages, page.words.length = 16) ∧ s.buffer.length = 16 ∧ s.page < 64 ∧
    s.word < 16 ∧ s.inFlight.map Prod.snd ≠ some 0

theorem noRecord_page : (none : Option (StoreOp × Nat)).map Prod.snd ≠ some 0 := by simp

theorem Store.sized_of_ok {s : Store} (h : s.Ok) : s.Sized := by
  obtain ⟨pages, words, buffer, page, word, record, -, -⟩ := h
  exact ⟨pages, words, buffer, page, word, record⟩

/-- An idle store is right when its sizes and ranges are. -/
theorem Store.ok_of_idle {s : Store} (sized : s.Sized) (idle : s.state = .sIdle) : s.Ok := by
  obtain ⟨pages, words, buffer, page, word, record⟩ := sized
  exact ⟨pages, words, buffer, page, word, record, by simp [idle], by simp [idle]⟩

theorem clearBuffer_length : Store.clearBuffer.length = 16 := by simp [Store.clearBuffer]

theorem placeWords_length (buffer : List BufferWord) (w : Nat) (vs : List Word) :
    (placeWords buffer w vs).length = buffer.length := by
  induction vs generalizing buffer w with
  | nil => rfl
  | cons v vs ih => simp [placeWords, ih]

theorem Store.select_sized {s : Store} (h : s.Sized) {page word : Nat} (hp : page < 64) (hw : word < 16) :
    (s.select page word).Sized := by
  obtain ⟨pages, words, buffer, page, word, record⟩ := h
  unfold Store.select
  split
  · exact ⟨pages, words, buffer, page, hw, record⟩
  · exact ⟨pages, words, clearBuffer_length, hp, hw, record⟩

theorem Store.advance_sized {s : Store} (h : s.Sized) (n : Nat) : (s.advance n).Sized := by
  obtain ⟨pages, words, buffer, page, word, record⟩ := h
  exact ⟨pages, words, buffer, page, by simp only [Store.advance]; omega, record⟩

theorem Store.buffer_sized {s : Store} (h : s.Sized) {buffer : List BufferWord} (hb : buffer.length = 16) :
    ({ s with buffer := buffer }).Sized := by
  obtain ⟨pages, words, -, page, word, record⟩ := h
  exact ⟨pages, words, hb, page, word, record⟩

theorem select_state (s : Store) (page word : Nat) : (s.select page word).state = s.state := by
  unfold Store.select
  split <;> rfl

/-! ## The store through the commands -/

theorem storeOk_of_same {g t : Gateway} (store : t.store = g.store) (phase : t.phase = g.phase) (h : g.StoreOk) :
    t.StoreOk := by
  simpa only [Gateway.StoreOk, store, phase] using h

theorem storeOk_of_allBut {l : List Part} {g t : Gateway} (frame : AllBut l g t) (store : .store ∉ l)
    (phase : .phase ∉ l) (h : g.StoreOk) : t.StoreOk :=
  storeOk_of_same (frame .store store) (frame .phase phase) h

/-- An idle store takes a new address or page buffer (R137 to R139). -/
theorem store_storeOk_of_idle {g : Gateway} {s : Store} (h : g.StoreOk) (idle : g.store.busy = false)
    (sized : s.Sized) (state : s.state = g.store.state) (record : s.inFlight = g.store.inFlight) :
    ({ g with store := s }).StoreOk := by
  have still : s.state = .sIdle := state.trans ((busy_eq_false_iff _).mp idle)
  exact ⟨Store.ok_of_idle sized still, fun running _ => record.trans (h.2.1 running (state ▸ still)), fun _ => still⟩

/-- A started operation is on record with its page, which is not page 0 (R149, R152, R154). -/
theorem startStore_storeOk {g : Gateway} {kind : StoreOp} {state : StoreState} (h : g.StoreOk)
    (running : g.phase = .running) (page : g.store.page ≠ 0)
    (kinds : (kind = .erase ∧ state = .sErasing) ∨
      (kind = .write ∧ state = .sWriting ∧ (g.store.pageAt g.store.page).state = .erased)) :
    (g.startStore kind state).StoreOk := by
  obtain ⟨pages, words, buffer, inside, word, -⟩ := Store.sized_of_ok h.1
  have started : ({ g with
      store := { g.store with state := state, inFlight := some (kind, g.store.page), timer := 0 } }).StoreOk := by
    refine ⟨⟨pages, words, buffer, inside, word, by simpa using page, ?_, ?_⟩, ?_, fun out => absurd running out⟩
    · rcases kinds with ⟨rfl, rfl⟩ | ⟨rfl, rfl, erased⟩ <;> simp
    · rcases kinds with ⟨rfl, rfl⟩ | ⟨rfl, rfl, erased⟩
      · simp
      · exact fun _ => ⟨rfl, erased⟩
    · rcases kinds with ⟨rfl, rfl⟩ | ⟨rfl, rfl, erased⟩ <;> simp
  exact storeOk_of_allBut (evalLevel_allBut _ _ _) (by decide) (by decide) started

theorem opBody_storeOk {g : Gateway} (h : g.StoreOk) (running : g.phase = .running) (k : Nat) (op : Op)
    (ex : Execution) : (g.opBody k op ex).Leaves Gateway.StoreOk := by
  have sized := Store.sized_of_ok h.1
  by_cases touched : .store ∈ op.changes
  case neg =>
    refine (opBody_leaves g k op ex).mono fun t frame => storeOk_of_allBut frame ?_ ?_ h
    · simp [touched, endParts]
    · cases op <;> simp [Op.changes, endParts]
  case pos =>
    cases op <;> try (simp [Op.changes] at touched; done)
    case storeSelect page word =>
      simp only [Gateway.opBody, Gateway.selectStore]
      split
      · trivial
      · rename_i idle
        split
        · trivial
        · rename_i inside
          refine store_storeOk_of_idle h (by simpa using idle) (Store.select_sized sized (by omega) (by omega))
            (select_state _ _ _) ?_
          unfold Store.select
          split <;> rfl
    case storeRead n =>
      simp only [Gateway.opBody, Gateway.readStore]
      split
      · trivial
      · split
        · trivial
        · rename_i idle
          have moved : ∀ m, ({ g with store := g.store.advance m }).StoreOk := fun m =>
            store_storeOk_of_idle h (by simpa using idle) (Store.advance_sized sized m) rfl rfl
          exact readWords_leaves moved moved ex _ _ _ _
    case storeFill ws =>
      simp only [Gateway.opBody, Gateway.fillStore]
      split
      · trivial
      · split
        · trivial
        · rename_i idle
          refine store_storeOk_of_idle h (by simpa using idle) (Store.advance_sized (Store.buffer_sized sized ?_) _) rfl rfl
          rw [placeWords_length]
          exact sized.2.2.1
    case storeStage =>
      simp only [Gateway.opBody, Gateway.stageStore]
      split
      · trivial
      · rename_i idle
        split
        · trivial
        · obtain ⟨pages, words, -, page, -, record⟩ := sized
          exact store_storeOk_of_idle h (by simpa using idle) ⟨pages, words, by simp, page, by simp, record⟩ rfl rfl
    case storeErase =>
      simp only [Gateway.opBody, Gateway.startErase]
      split
      · trivial
      · split
        · trivial
        · rename_i page
          exact startStore_storeOk h running page (.inl ⟨rfl, rfl⟩)
    case storeWrite =>
      simp only [Gateway.opBody, Gateway.startWrite]
      split
      · trivial
      · split
        · trivial
        · rename_i page
          split
          · trivial
          · rename_i erased
            exact startStore_storeOk h running page (.inr ⟨rfl, rfl, by simpa using erased⟩)

theorem operation_storeOk {g t : Gateway} (h : g.StoreOk) (running : ∀ ex, g.exec = some ex → g.phase = .running)
    (operation : OperationStep g t) : t.StoreOk := by
  cases operation with
  | idle => exact h
  | body op k ex runs =>
    refine runOp_keeps (Q := Gateway.StoreOk) h (fun ex status _ => ?_)
      (fun ex' _ => opBody_storeOk h (running ex runs.1) k op ex') (fun _ _ _ _ left => left)
      fun ex h' status data words _ left => ?_
    · exact storeOk_of_allBut ((failOp_allBut g ex status).trans (settle_allBut_replyParts _)) (by decide) (by decide) h
    · exact storeOk_of_allBut ((finishOp_allBut h' ex status data words).trans (settle_allBut_replyParts _)) (by decide)
        (by decide) left
  | restart ex runs access idle =>
    exact storeOk_of_allBut ((beginRestart_allBut g ex).trans (settle_allBut_replyParts _)) (by decide) (by decide) h

/-- A reset leaves an idle store with its pages and record (R160). -/
theorem afterReset_sized {s : Store} (h : s.Sized) : s.afterReset.Sized := by
  obtain ⟨pages, words, -, -, -, record⟩ := h
  exact ⟨pages, words, clearBuffer_length, Nat.zero_lt_succ 63, Nat.zero_lt_succ 15, record⟩

/-- The mark of a TORN page leaves its words (R161). -/
theorem markTorn_sized {s : Store} (h : s.Sized) : s.markTorn.Sized := by
  obtain ⟨pages, words, buffer, page, word, record⟩ := h
  unfold Store.markTorn
  split
  · exact ⟨pages, words, buffer, page, word, record⟩
  · refine ⟨by simpa using pages, fun marked inside => ?_, buffer, page, word, record⟩
    obtain ⟨i, hi, rfl⟩ := List.mem_iff_getElem.mp inside
    have kept : ∀ p ∈ s.pages, ({ p with state := .torn } : Page).words.length = 16 := words
    rw [List.getElem_modify]
    split
    · exact kept _ (List.getElem_mem _)
    · exact words _ (List.getElem_mem _)

theorem markTorn_state (s : Store) : s.markTorn.state = s.state := by
  unfold Store.markTorn
  split <;> rfl

theorem beginLoad_storeOk {g : Gateway} (sized : g.store.Sized) (idle : g.store.state = .sIdle) : g.beginLoad.StoreOk :=
  have still : g.store.markTorn.state = .sIdle := (markTorn_state _).trans idle
  ⟨Store.ok_of_idle (markTorn_sized sized) still, fun running => absurd running (by simp [Gateway.beginLoad]),
    fun _ => still⟩

theorem resetBy_storeOk {g : Gateway} (h : g.StoreOk) (cause : StartCause) : (g.resetBy cause).StoreOk :=
  ⟨Store.ok_of_idle (afterReset_sized (Store.sized_of_ok h.1)) rfl,
    fun running => absurd (show Phase.held = .running from running) (by decide), fun _ => rfl⟩

theorem started_storeOk {g : Gateway} (h : g.StoreOk) (loading : g.phase ≠ .running) : g.started.StoreOk := by
  obtain ⟨pages, words, buffer, page, word, -⟩ := Store.sized_of_ok h.1
  have idle : g.started.store.state = .sIdle := h.2.2 loading
  exact ⟨Store.ok_of_idle ⟨pages, words, buffer, page, word, noRecord_page⟩ idle, fun _ _ => rfl, fun _ => idle⟩

theorem latch_storeOk {g : Gateway} (src : Source) (h : g.StoreOk) : (g.latch src).StoreOk :=
  storeOk_of_allBut (latch_allBut g src) (by decide) (by decide) h

/-- The store's ticks move its timer alone (R149). -/
theorem tick_store_eq (s : Store) : ∃ n, s.tick = { s with timer := n } := by
  unfold Store.tick
  split
  · exact ⟨s.timer, rfl⟩
  · exact ⟨_, rfl⟩
  · exact ⟨_, rfl⟩

theorem tick_storeOk {g : Gateway} (h : g.StoreOk) : g.tick.StoreOk := by
  unfold Gateway.tick
  split
  · have aged : ((List.range 16).foldl Gateway.refill ((g.modPort .a Port.tick).modPort .b Port.tick)).StoreOk :=
      storeOk_of_allBut (((modBoth_allBut g _ _).mono (m := [.meters, .portA, .portB]) (by decide)).trans
        (foldl_refill_allBut _ _)) (by decide) (by decide) h
    obtain ⟨n, same⟩ := tick_store_eq
      ((List.range 16).foldl Gateway.refill ((g.modPort .a Port.tick).modPort .b Port.tick)).store
    dsimp only
    rw [same]
    exact aged
  · exact h

/-- A completion leaves an idle store with nothing in flight, its pages of their size (R153, R155). -/
theorem completed_storeOk {g : Gateway} {s : Store} (sized : s.Sized) (idle : s.state = .sIdle)
    (record : s.inFlight = none) : (g.completed s).StoreOk := by
  have done : ({ g with store := s }).StoreOk := ⟨Store.ok_of_idle sized idle, fun _ _ => record, fun _ => idle⟩
  refine storeOk_of_allBut (l := endParts) (AllBut.trans (AllBut.trans ?_ (evalLevel_allBut_endParts _ _ _))
    (settle_allBut _)) (by decide) (by decide) done
  exact latch_allBut_endParts _ _

theorem set_page_sized {s : Store} (h : s.Sized) {n : Nat} {page : Page} (words : page.words.length = 16) :
    ({ s with pages := s.pages.set n page, inFlight := none }).Sized := by
  obtain ⟨pages, each, buffer, inside, word, -⟩ := h
  refine ⟨by simpa using pages, fun p mem => ?_, buffer, inside, word, noRecord_page⟩
  rcases List.mem_or_eq_of_mem_set mem with old | rfl
  · exact each p old
  · exact words

theorem erased_sized {s : Store} (h : s.Sized) (n : Nat) : (s.erased n).Sized :=
  set_page_sized h (by simp)

theorem written_sized {s : Store} (h : s.Sized) (n : Nat) : (s.written n).Sized := by
  have words : (⟨.written, s.programmed⟩ : Page).words.length = 16 := by
    simpa [Store.programmed] using h.2.2.1
  obtain ⟨pages, each, -, inside, word, record⟩ := set_page_sized h (n := n) words
  exact ⟨pages, each, clearBuffer_length, inside, word, record⟩

theorem effect_storeOk {c : Instr} {g : Gateway} (h : g.StoreOk) (idles : g.phase ≠ .running → g.exec = none) :
    (effect c g).StoreOk := by
  have sized := Store.sized_of_ok h.1
  cases operation : runsOperation c
  case true =>
    refine operation_storeOk h (fun ex executing => ?_) (effect_operationStep c g operation)
    by_contra out
    simp [idles out] at executing
  case false =>
    by_cases quiet : .store ∉ touches c ∧ .phase ∉ touches c
    · exact storeOk_of_allBut (effect_allBut c g operation) quiet.1 quiet.2 h
    · cases c <;> first
        | (cases operation; done)
        | (simp [touches, endParts, decisionParts, replyParts] at quiet; done)
        | skip
      case powerOnReset => exact resetBy_storeOk h _
      case lineReset => exact resetBy_storeOk h _
      case requestReset =>
        simp only [effect, Gateway.requestReset]
        split
        · exact beginLoad_storeOk (afterReset_sized sized) rfl
        · exact h
      case resetRelease =>
        simp only [effect, Gateway.resetRelease]
        split
        · rename_i held
          exact beginLoad_storeOk sized (h.2.2 (by simp [held]))
        · exact h
      case bootPageLoad =>
        simp only [effect, Gateway.bootPageLoad]
        split
        · rename_i n loading
          split
          · have idle := h.2.2 (by simp [loading])
            have begun : (g.pageBegun n).StoreOk := ⟨h.1, fun running => absurd running (by simp [Gateway.pageBegun]), fun _ => idle⟩
            rw [loadPage_eq]
            repeat' split
            · exact storeOk_of_allBut (loadPort_allBut _ _) (by decide) (by decide) begun
            · exact storeOk_of_allBut (loadGeneral_allBut _ _) (by decide) (by decide) begun
            · exact storeOk_of_allBut (loadGroup_allBut _ _) (by decide) (by decide) begun
            · exact storeOk_of_allBut (loadMeters_allBut _ _ _) (by decide) (by decide) begun
            · exact storeOk_of_allBut (loadRoute_allBut _ _ _) (by decide) (by decide) begun
          · exact h
        · exact h
        · exact h
      case bootLoadEnd =>
        simp only [effect, Gateway.bootLoadEnd]
        split
        · rename_i n loading
          split
          · exact endLoad_keeps latch_storeOk (started_storeOk h (by simp [loading]))
          · exact h
        · exact h
        · exact h
      case tick => exact tick_storeOk h
      case storeEraseComplete =>
        simp only [effect, Gateway.eraseComplete]
        split
        · exact completed_storeOk (erased_sized sized _) rfl rfl
        · exact h
      case storeWriteComplete =>
        simp only [effect, Gateway.writeComplete]
        split
        · exact completed_storeOk (written_sized sized _) rfl rfl
        · exact h

/-- Settles O56, by one invariant a level and by the store's sizes: what changes a level ends in its evaluation, the
ports leave STARTING with their links down, and only the store's own operations and the resets change the store. -/
theorem levelsAndStoreKept : Obligations.LevelsAndStoreKept := by
  intro s s' ports levels store next
  obtain ⟨⟨startingA, startingB, idles⟩, a, b⟩ := ports
  rcases step_cases next with rfl | ⟨c, rest, -, rfl⟩
  · exact ⟨levels, store⟩
  · refine ⟨effect_levelsOk (fun out => ?_) (fun ends => ?_) levels, effect_storeOk store idles⟩
    · rintro (_ | _)
      · exact (a.2.1 (startingA.mpr out)).2
      · exact (b.2.1 (startingB.mpr out)).2
    · subst ends
      simp only [effect, Gateway.bootLoadEnd]
      split
      · rename_i loading
        exact .inr (by simp [loading])
      · exact .inl rfl
      · exact .inl rfl

end Sys2Proof.Machine
end

section
/-! SUPPORT. Meters, routes and the other tables (R71, R102, R127, R164): what each command leaves of them, and with it
the statement that they stay in range. -/

open Sys2Proof

namespace Sys2Proof.Machine

/-! ## Folds over the indices of a table -/

/-- What holds before a fold over `0 … n-1` and is carried by each of its steps holds after it. -/
theorem foldl_range_induction {σ : Type} {f : σ → Nat → σ} {P : Nat → σ → Prop} {init : σ} (base : P 0 init) (n : Nat)
    (step : ∀ i < n, ∀ s, P i s → P (i + 1) (f s i)) : P n ((List.range n).foldl f init) := by
  induction n with
  | zero => exact base
  | succ n ih =>
    rw [List.range_succ, List.foldl_append]
    exact step n (Nat.lt_succ_self n) _ (ih fun i hi => step i (Nat.lt_succ_of_lt hi))

/-- A fold keeps a predicate of what it builds when each of its steps does. -/
theorem foldl_induction {σ α : Type} {f : σ → α → σ} {P : σ → Prop} {init : σ} (as : List α) (base : P init)
    (step : ∀ s, ∀ a ∈ as, P s → P (f s a)) : P (as.foldl f init) := by
  induction as generalizing init with
  | nil => exact base
  | cons a as ih =>
    exact ih (step _ a (List.mem_cons_self ..) base) fun s b hb => step s b (List.mem_cons_of_mem _ hb)

/-! ## Meters (R102 to R105, R113 to R117) -/

theorem meterReset_ok : Meter.reset.Ok := by decide

/-- A meter of the table, and one beyond it, is in range. -/
theorem meter_ok {g : Gateway} (h : g.MetersOk) (k : Nat) : (g.meter k).Ok := by
  unfold Gateway.meter
  by_cases inside : k < g.meters.length
  · rw [List.getD_eq_getElem _ _ inside]
    exact h.2 _ (List.getElem_mem inside)
  · rw [List.getD_eq_default _ _ (Nat.le_of_not_lt inside)]
    exact meterReset_ok

theorem setMeter_metersOk {g : Gateway} (h : g.MetersOk) (k : Nat) {m : Meter} (ok : m.Ok) :
    ({ g with meters := g.meters.set k m }).MetersOk := by
  refine ⟨by simpa using h.1, fun n mem => ?_⟩
  rcases List.mem_or_eq_of_mem_set mem with old | rfl
  · exact h.2 n old
  · exact ok

theorem metersOk_of_same {g t : Gateway} (meters : t.meters = g.meters) (h : g.MetersOk) : t.MetersOk := by
  simpa only [Gateway.MetersOk, meters] using h

theorem metersOk_of_allBut {l : List Part} {g t : Gateway} (frame : AllBut l g t) (meters : .meters ∉ l)
    (h : g.MetersOk) : t.MetersOk :=
  metersOk_of_same (frame .meters meters) h

/-- The refilled credit as a number: a credit within its burst stays there (R103). -/
theorem refilled_credit (m : Meter) (enabled : m.enabled = true) :
    m.refilled.credit.toNat = min (m.credit.toNat + m.rate.toNat) m.burst.toNat := by
  have burst := m.burst.isLt
  simp only [Meter.refilled, enabled, if_true, BitVec.toNat_ofNat]
  exact Nat.mod_eq_of_lt (by omega)

theorem refilled_ok {m : Meter} (h : m.Ok) : m.refilled.Ok := by
  obtain ⟨credit, burst, rate, control⟩ := h
  by_cases enabled : m.enabled = true
  · have filled := refilled_credit m enabled
    have same : m.refilled = { m with credit := m.refilled.credit } := by simp [Meter.refilled, enabled]
    rw [same]
    exact ⟨by simp only [filled]; omega, burst, rate, control⟩
  · have same : m.refilled = m := by simp [Meter.refilled, enabled]
    rw [same]
    exact ⟨credit, burst, rate, control⟩

/-- The limit of a credit as a number (R115, R117). -/
theorem limited_eq (m : Meter) : m.limited = { m with credit := m.limited.credit } := by
  unfold Meter.limited
  split <;> rfl

theorem limited_credit (m : Meter) : m.limited.credit.toNat = min m.credit.toNat m.burst.toNat := by
  unfold Meter.limited
  split
  · show m.burst.toNat = _
    omega
  · omega

theorem limited_ok {m : Meter} (burst : 1 ≤ m.burst.toNat) (rate : m.rate.toNat ≤ 4095)
    (control : m.control &&& 0x8003 = m.control) : m.limited.Ok := by
  have credit := limited_credit m
  rw [limited_eq]
  exact ⟨by simp only [credit]; omega, burst, rate, control⟩

theorem started_ok {m : Meter} (h : m.Ok) : m.started.Ok := by
  obtain ⟨-, burst, rate, control⟩ := h
  unfold Meter.started
  split
  · exact ⟨Nat.le_refl _, burst, rate, control⟩
  · exact limited_ok burst rate control

theorem mask_idem (v mask : Word) : v &&& mask &&& mask = v &&& mask := by
  rw [BitVec.and_assoc, BitVec.and_self]

theorem loadedMeter_ok (page : Page) (base : Nat) : (loadedMeter page base).Ok := by
  unfold loadedMeter
  split
  · exact meterReset_ok
  · simp only [List.range, List.range.loop, List.foldl, Meter.set]
    refine limited_ok ?_ ?_ ?_
    · simp only [loadedMeterWord, meterWordInRange]
      split
      · rename_i inRange
        simp only [decide_eq_true_eq] at inRange
        omega
      · decide
    · simp only [loadedMeterWord, meterWordInRange]
      split
      · rename_i inRange
        simpa using inRange
      · decide
    · exact mask_idem _ _

theorem loadMeters_metersOk {g : Gateway} (h : g.MetersOk) (page : Page) (n : Nat) : (g.loadMeters page n).MetersOk := by
  refine foldl_induction (P := fun ms => ({ g with meters := ms }).MetersOk) _ h fun ms i _ before => ?_
  exact setMeter_metersOk (g := { g with meters := ms }) before _ (loadedMeter_ok page _)

theorem debit_metersOk {g : Gateway} (h : g.MetersOk) {k n : Nat} (room : n ≤ (g.meter k).credit.toNat) :
    (g.debit k n).MetersOk := by
  obtain ⟨credit, burst, rate, control⟩ := meter_ok h k
  refine setMeter_metersOk h k ⟨?_, burst, rate, control⟩
  have lt := (g.meter k).credit.isLt
  have small : (BitVec.ofNat 16 n).toNat = n := by
    rw [BitVec.toNat_ofNat]
    exact Nat.mod_eq_of_lt (by omega)
  show ((g.meter k).credit - BitVec.ofNat 16 n).toNat ≤ (g.meter k).burst.toNat
  rw [BitVec.toNat_sub_of_le (by rw [BitVec.le_def, small]; exact room), small]
  omega

/-! ## Decisions debit a meter at most, and within its credit (R84, R105) -/

/-- The meters are as they were, or one has been debited within its credit. -/
def MetersDebited (g t : Gateway) : Prop :=
  t.meters = g.meters ∨ ∃ k n, n ≤ (g.meter k).credit.toNat ∧ t.meters = (g.debit k n).meters

theorem metersDebited_of_allBut {l : List Part} {g t : Gateway} (frame : AllBut l g t) (meters : .meters ∉ l) :
    MetersDebited g t :=
  .inl (frame .meters meters)

theorem MetersDebited.metersOk {g t : Gateway} (h : MetersDebited g t) (ok : g.MetersOk) : t.MetersOk := by
  rcases h with same | ⟨k, n, room, same⟩
  · exact metersOk_of_same same ok
  · exact metersOk_of_same same (debit_metersOk ok room)

/-- A conforming verdict has found credit for the frame (R84, R104). -/
theorem credit_of_conform {g : Gateway} {p : PortId} {r : DecisionRecord} {treatment : Option (Bool × MeterMode)} {k : Nat}
    (h : g.forwardVerdict p r treatment = .conform k) : r.byteCount ≤ (g.meter k).credit.toNat := by
  unfold Gateway.forwardVerdict at h
  repeat' split at h
  all_goals cases h
  assumption

theorem carryForward_metersDebited {g : Gateway} {p : PortId} {r : DecisionRecord} (f : Frame) {wait : Gateway → Gateway}
    (waits : (wait g).meters = g.meters) {verdict : ForwardVerdict}
    (conforms : ∀ k, verdict = .conform k → r.byteCount ≤ (g.meter k).credit.toNat) :
    MetersDebited g (g.carryForward p r f wait verdict) := by
  have claim : ∀ h queue, (Gateway.claimForward h p r f queue).meters = h.meters := fun h queue =>
    claimForward_allBut h p r f queue .meters (by decide)
  have report : ∀ h k, (Gateway.reportExceed h p r k).meters = h.meters := fun h k =>
    reportExceed_allBut h p r k .meters (by decide)
  cases verdict with
  | noCapacity => exact .inl waits
  | pass => exact .inl (claim g _)
  | conform k => exact .inr ⟨k, r.byteCount, conforms k rfl, claim _ _⟩
  | exceed k mode =>
    refine .inl ?_
    cases mode with
    | drop => exact (report _ k).trans (by simp [Gateway.answerNak])
    | hold => exact (report _ k).trans waits
    | pause => exact (report _ k).trans (by simp [Gateway.answerNak])
    | mark => exact (report _ k).trans (claim g _)

theorem holdOrBusy_meters (g : Gateway) (p : PortId) (r : DecisionRecord) : (g.holdOrBusy p r).meters = g.meters :=
  holdOrBusy_allBut g p r .meters (by cases p <;> decide)

theorem claimDivert_meters {g t : Gateway} {p : PortId} {r : DecisionRecord} {f : Frame}
    (h : g.claimDivert p r f = some t) : t.meters = g.meters :=
  claimDivert_allBut h .meters (by decide)

theorem claimManagement_meters {g t : Gateway} {p : PortId} {r : DecisionRecord} {f : Frame}
    (h : g.claimManagement p r f = some t) : t.meters = g.meters :=
  claimManagement_allBut h .meters (by decide)

theorem getD_metersDebited {g t : Gateway} {claim : Option Gateway} (claimed : ∀ h, claim = some h → h.meters = g.meters)
    (waits : t.meters = g.meters) : MetersDebited g (claim.getD t) :=
  .inl (getD_claim (I := fun h => h.meters = g.meters) claimed waits)

theorem decideForward_metersDebited (g : Gateway) (p : PortId) (r : DecisionRecord) (f : Frame) :
    MetersDebited g (g.decideForward p r f) := by
  unfold Gateway.decideForward
  repeat' split
  · exact metersDebited_of_allBut (((answerNak_allBut_endParts g p r _).trans (bump_allBut_endParts _ _ _)).trans
      (latch_allBut_endParts _ _)) (by decide)
  · exact metersDebited_of_allBut (silent_allBut g p r) (by cases p <;> decide)
  · exact metersDebited_of_allBut (answerNak_allBut g p r _) (by cases p <;> decide)
  · exact carryForward_metersDebited f (wait := (·.holdOrBusy p r)) (holdOrBusy_meters g p r) fun k => credit_of_conform

theorem decideAction_metersDebited (g : Gateway) (p : PortId) (r : DecisionRecord) (f : Frame) :
    MetersDebited g (g.decideAction p r f) := by
  unfold Gateway.decideAction
  split
  · exact metersDebited_of_allBut (silent_allBut g p r) (by cases p <;> decide)
  · exact metersDebited_of_allBut (answerNak_allBut g p r _) (by cases p <;> decide)
  · exact getD_metersDebited (fun h => claimDivert_meters) (holdOrBusy_meters g p r)
  · exact decideForward_metersDebited g p r f
  · exact metersDebited_of_allBut (silent_allBut g p r) (by cases p <;> decide)

theorem classify_metersDebited (g : Gateway) (p : PortId) (f : Frame) : MetersDebited g (g.classify p f) := by
  unfold Gateway.classify
  dsimp only
  split
  · exact metersDebited_of_allBut (silent_allBut g p _) (by cases p <;> decide)
  · split
    · exact getD_metersDebited (fun h => claimManagement_meters) (holdOrBusy_meters g p _)
    · rw [decideRoute_eq]
      exact decideAction_metersDebited _ p _ f

theorem complete_metersOk {g : Gateway} (ok : g.MetersOk) (p : PortId) (f : Frame) (check : Word) :
    (g.complete p f check).MetersOk := by
  have counted : ∀ c, ((g.modPort p (·.stage f check)).count p c).MetersOk := fun c =>
    metersOk_of_same (by simp) ok
  unfold Gateway.complete
  dsimp only
  repeat' split
  · exact metersOk_of_allBut (latch_allBut _ _) (by decide) (counted _)
  · exact counted _
  · exact (classify_metersDebited _ p f).metersOk (counted _)
  · exact counted _

theorem retestHold_metersDebited (g : Gateway) (p : PortId) (r : DecisionRecord) (f : Frame) :
    MetersDebited g (g.retestHold p r f) := by
  unfold Gateway.retestHold
  repeat' split
  · exact getD_metersDebited (fun h => claimManagement_meters) rfl
  · exact getD_metersDebited (fun h => claimDivert_meters) rfl
  · exact carryForward_metersDebited f (wait := id) rfl fun k => credit_of_conform

/-! ## A WRITE of METER words (R113 to R115) -/

/-- A meter in range but for its credit, which may stand above the burst. -/
def Meter.Ranged (m : Meter) : Prop :=
  1 ≤ m.burst.toNat ∧ m.rate.toNat ≤ 4095 ∧ m.control &&& 0x8003 = m.control

theorem set_ranged {m : Meter} (h : m.Ranged) {j : Nat} {v : Word} (inRange : meterWordInRange j v = true) :
    (m.set j v).Ranged := by
  obtain ⟨burst, rate, control⟩ := h
  unfold Meter.set
  split
  · exact ⟨burst, rate, mask_idem _ _⟩
  · exact ⟨burst, by simpa [meterWordInRange] using inRange, control⟩
  · have nonzero : v.toNat ≠ 0 := by simpa only [meterWordInRange, decide_eq_true_eq] using inRange
    exact ⟨by simp only; omega, rate, control⟩
  · exact ⟨burst, rate, control⟩
  · exact ⟨burst, rate, control⟩

theorem set_credit_burst {m : Meter} {j : Nat} (v : Word) (other : ¬ 2 ≤ j) :
    (m.set j v).credit = m.credit ∧ (m.set j v).burst = m.burst := by
  have small : j = 0 ∨ j = 1 := by omega
  rcases small with rfl | rfl <;> exact ⟨rfl, rfl⟩

/-- The meters after a list of words: in range but for credits, and those whose burst and credit no word names as
they were there. -/
theorem writeMeterWords_ranged {ms : List Meter} (ok : ∀ m ∈ ms, m.Ok) (targets : List (Nat × Word))
    (inRange : ∀ iw ∈ targets, meterWordInRange (iw.1 % 4) iw.2 = true) :
    (targets.foldl writeMeterWord ms).length = ms.length ∧
      ∀ k (inside : k < (targets.foldl writeMeterWord ms).length),
        (targets.foldl writeMeterWord ms)[k].Ranged ∧
          (writesCredit targets k = false → (targets.foldl writeMeterWord ms)[k].Ok) := by
  have all : (targets.foldl writeMeterWord ms).length = ms.length ∧
      ∀ k (inside : k < (targets.foldl writeMeterWord ms).length),
        (targets.foldl writeMeterWord ms)[k].Ranged ∧
          (writesCredit targets k = false → (targets.foldl writeMeterWord ms)[k].credit.toNat ≤
            (targets.foldl writeMeterWord ms)[k].burst.toNat) := by
    refine foldl_induction (P := fun (l : List Meter) => l.length = ms.length ∧ ∀ k (inside : k < l.length),
      l[k].Ranged ∧ (writesCredit targets k = false → l[k].credit.toNat ≤ l[k].burst.toNat)) targets ⟨rfl, ?_⟩ ?_
    · intro k inside
      obtain ⟨credit, burst, rate, control⟩ := ok _ (List.getElem_mem inside)
      exact ⟨⟨burst, rate, control⟩, fun _ => credit⟩
    · rintro l ⟨i, v⟩ mem ⟨length, before⟩
      refine ⟨by simpa [writeMeterWord] using length, fun k inside => ?_⟩
      have inside' : k < l.length := by simpa [writeMeterWord] using inside
      obtain ⟨ranged, credit⟩ := before k inside'
      simp only [writeMeterWord, List.getElem_modify]
      split
      · rename_i same
        refine ⟨set_ranged ranged (inRange _ mem), fun unwritten => ?_⟩
        have other : ¬ 2 ≤ i % 4 := by
          intro high
          have : writesCredit targets k = true := List.any_eq_true.mpr ⟨(i, v), mem, by simp [same, high]⟩
          simp [this] at unwritten
        rw [(set_credit_burst v other).1, (set_credit_burst v other).2]
        exact credit unwritten
      · exact ⟨ranged, credit⟩
  refine ⟨all.1, fun k inside => ⟨(all.2 k inside).1, fun unwritten => ?_⟩⟩
  obtain ⟨burst, rate, control⟩ := (all.2 k inside).1
  exact ⟨(all.2 k inside).2 unwritten, burst, rate, control⟩

theorem promptMeter_meters (g : Gateway) (k : Nat) : (g.promptMeter k).meters = g.meters :=
  promptMeter_allBut g k .meters (by decide)

/-- The meters once the credits of those up to `n` that were written are limited. -/
theorem meterWritten_meters (targets : List (Nat × Word)) (g : Gateway) (k : Nat) :
    (g.meterWritten targets k).meters =
      if writesCredit targets k then g.meters.modify k Meter.limited else g.meters := by
  unfold Gateway.meterWritten
  split
  · exact promptMeter_meters _ k
  · rfl

theorem writeMeters_metersOk {g : Gateway} (h : g.MetersOk) (targets : List (Nat × Word))
    (inRange : ∀ iw ∈ targets, meterWordInRange (iw.1 % 4) iw.2 = true) : (g.writeMeters targets).MetersOk := by
  obtain ⟨length, written⟩ := writeMeterWords_ranged h.2 targets inRange
  have limited : (g.writeMeters targets).meters.length = 16 ∧
      ∀ k (inside : k < (g.writeMeters targets).meters.length), k < 16 → (g.writeMeters targets).meters[k].Ok := by
    refine (foldl_range_induction (P := fun n (t : Gateway) => t.meters.length = 16 ∧ ∀ k (inside : k < t.meters.length),
      t.meters[k].Ranged ∧ ((writesCredit targets k = false ∨ k < n) → t.meters[k].Ok)) ?_ 16 ?_).imp id
      fun all k inside small => (all k inside).2 (.inr small)
    · exact ⟨length.trans h.1, fun k inside => ⟨(written k inside).1, fun known => (written k inside).2 (by simpa using known)⟩⟩
    · rintro n - t ⟨length, before⟩
      have same := meterWritten_meters targets t n
      by_cases writes : writesCredit targets n = true
      · rw [if_pos writes] at same
        refine ⟨by rw [same]; simpa using length, fun k inside => ?_⟩
        have inside' : k < t.meters.length := by simpa [same] using inside
        obtain ⟨ranged, known⟩ := before k inside'
        simp only [same, List.getElem_modify]
        split
        · obtain ⟨burst, rate, control⟩ := ranged
          have ok := limited_ok burst rate control
          exact ⟨⟨ok.2.1, ok.2.2.1, ok.2.2.2⟩, fun _ => ok⟩
        · exact ⟨ranged, fun now => known (now.imp id fun le => by omega)⟩
      · rw [if_neg writes] at same
        refine ⟨by rw [same]; exact length, fun k inside => ?_⟩
        have inside' : k < t.meters.length := by simpa [same] using inside
        obtain ⟨ranged, known⟩ := before k inside'
        simp only [same]
        refine ⟨ranged, fun now => known ?_⟩
        rcases now with unwritten | le
        · exact .inl unwritten
        · by_cases last : k = n
          · exact .inl (by simpa [last] using writes)
          · exact .inr (by omega)
  refine ⟨limited.1, fun m mem => ?_⟩
  obtain ⟨k, inside, rfl⟩ := List.mem_iff_getElem.mp mem
  exact limited.2 k inside (limited.1 ▸ inside)

end Sys2Proof.Machine
end

section
/-! SUPPORT. The Route Table, GROUP, counters, window and pool-low mark (R52, R71, R127, R164), and the statement that
all tables stay in range. -/

open Sys2Proof

namespace Sys2Proof.Machine

/-! ## Meters through the commands -/

theorem tick_metersOk {g : Gateway} (h : g.MetersOk) : g.tick.MetersOk := by
  unfold Gateway.tick
  split
  · have aged : ((g.modPort .a Port.tick).modPort .b Port.tick).MetersOk := metersOk_of_same (by simp) h
    refine foldl_keeps (I := Gateway.MetersOk) (fun {t} k before => ?_) _ aged
    have filled := setMeter_metersOk before k (refilled_ok (meter_ok before k))
    unfold Gateway.refill
    dsimp only
    split
    · exact metersOk_of_same (promptMeter_meters _ k) filled
    · exact filled
  · exact h

theorem reset_metersOk : Gateway.reset.MetersOk := by
  refine ⟨List.length_replicate (n := 16) (a := Meter.reset), fun m mem => ?_⟩
  have same : m = Meter.reset := List.eq_of_mem_replicate (n := 16) mem
  rw [same]
  exact meterReset_ok

theorem started_metersOk {g : Gateway} (h : g.MetersOk) : g.started.MetersOk := by
  refine ⟨(List.length_map (as := g.meters) Meter.started).trans h.1, fun m mem => ?_⟩
  obtain ⟨old, inside, rfl⟩ := List.mem_map.mp (show m ∈ g.meters.map Meter.started from mem)
  exact started_ok (h.2 old inside)

theorem latch_metersOk {g : Gateway} (src : Source) (h : g.MetersOk) : (g.latch src).MetersOk :=
  metersOk_of_allBut (latch_allBut g src) (by decide) h

theorem settle_metersOk {g : Gateway} (h : g.MetersOk) : g.settle.MetersOk :=
  metersOk_of_allBut (settle_allBut g) (by decide) h

/-- A WRITE that is carried out has met no protected index, no value out of range, and no valid entry that is not
well-formed (R129, R130). -/
theorem writeWindow_done {g t : Gateway} {ws : List Word} {status : OpStatus} {data : List Byte} {words : Nat}
    (h : g.writeWindow ws = .done status data words t) :
    status = .ok ∧ data = [] ∧ words = ws.length ∧ 1 ≤ ws.length ∧ ws.length ≤ 32 ∧
      (∀ iw ∈ writeTargets g.windowTable g.windowIndex ws, g.protectedTarget g.windowTable iw.1 iw.2 = false) ∧
      (∀ iw ∈ writeTargets g.windowTable g.windowIndex ws, targetInRange g.windowTable iw.1 iw.2 = true) ∧
      (g.windowTable = .route →
        routeWellFormed (writeRouteWords g.route (writeTargets g.windowTable g.windowIndex ws)) = true) ∧
      t = (g.writeTable g.windowTable (writeTargets g.windowTable g.windowIndex ws)).moveWindow ws.length := by
  unfold Gateway.writeWindow at h
  dsimp only at h
  split at h
  · cases h
  · rename_i count
    split at h
    · cases h
    · rename_i open_
      split at h
      · cases h
      · rename_i inRange
        split at h
        · cases h
        · rename_i formed
          cases h
          refine ⟨rfl, rfl, rfl, by omega, by omega, by simpa using open_, by simpa using inRange, fun route => ?_, rfl⟩
          simpa [route] using formed

/-- The end of an operation and of its execution, and the selections, keep what reads none of their parts. -/
theorem operation_keeps_of_frame {I : Gateway → Prop} {g t : Gateway}
    (same : ∀ {g t : Gateway}, AllBut replyParts g t → I g → I t) (holds : I g)
    (leaves : ∀ op k ex, g.Runs ex op → ∀ ex, (g.opBody k op ex).Leaves I) (operation : OperationStep g t) : I t := by
  cases operation with
  | idle => exact holds
  | body op k ex runs =>
    exact runOp_keeps (Q := I) holds
      (fun ex status _ => same ((failOp_allBut g ex status).trans (settle_allBut_replyParts _)) holds)
      (fun ex' _ => leaves op k ex runs ex')
      (fun _ h _ _ left => same ((execution_allBut h _).mono (by decide)) left)
      fun ex h status data words _ left =>
        same ((finishOp_allBut h ex status data words).trans (settle_allBut_replyParts _)) left
  | restart ex runs access idle =>
    exact same ((beginRestart_allBut g ex).trans (settle_allBut_replyParts _)) holds

theorem writeTable_metersOk {g : Gateway} (h : g.MetersOk) (t : Table) (targets : List (Nat × Word))
    (inRange : ∀ iw ∈ targets, targetInRange t iw.1 iw.2 = true) : (g.writeTable t targets).MetersOk := by
  cases t with
  | meter => exact writeMeters_metersOk h targets inRange
  | port => exact metersOk_of_allBut (writeTable_allBut g .port targets) (by decide) h
  | general => exact metersOk_of_allBut (writeTable_allBut g .general targets) (by decide) h
  | group => exact h
  | route => exact h
  | counters => exact h
  | events => exact h

/-- The outcome of a WRITE leaves what its table and the move of the window leave. -/
theorem writeWindow_leaves {Q : Gateway → Prop} {g : Gateway} {ws : List Word}
    (done : ∀ t, g.writeWindow ws = .done .ok [] ws.length t → Q t) : (g.writeWindow ws).Leaves Q := by
  cases outcome : g.writeWindow ws with
  | fail => trivial
  | reading taken t =>
    unfold Gateway.writeWindow at outcome
    dsimp only at outcome
    repeat' split at outcome
    all_goals cases outcome
  | done status data words t =>
    obtain ⟨rfl, rfl, rfl, -⟩ := writeWindow_done outcome
    exact done t outcome

theorem opBody_metersOk {g : Gateway} (h : g.MetersOk) (k : Nat) (op : Op) (ex : Execution) :
    (g.opBody k op ex).Leaves Gateway.MetersOk := by
  by_cases write : ∃ ws, op = .write ws
  · obtain ⟨ws, rfl⟩ := write
    refine writeWindow_leaves fun t outcome => ?_
    obtain ⟨-, -, -, -, -, -, inRange, -, rfl⟩ := writeWindow_done outcome
    exact metersOk_of_same (by simp) (writeTable_metersOk h _ _ inRange)
  · refine (opBody_leaves g k op ex).mono fun t frame => metersOk_of_allBut frame ?_ h
    cases op <;> first | (exact absurd ⟨_, rfl⟩ write) | simp [Op.changes, endParts]

theorem metersOk_kept : Kept Gateway.MetersOk := by
  refine kept_of_effect fun c g h => ?_
  cases operation : runsOperation c
  case true =>
    exact operation_keeps_of_frame (fun frame => metersOk_of_allBut frame (by decide)) h
      (fun op k _ _ => opBody_metersOk h k op) (effect_operationStep c g operation)
  case false =>
    by_cases quiet : .meters ∉ touches c
    · exact metersOk_of_allBut (effect_allBut c g operation) quiet h
    · cases c <;> first
        | (cases operation; done)
        | (simp [touches, endParts, replyParts] at quiet; done)
        | skip
      case powerOnReset => exact metersOk_of_same rfl reset_metersOk
      case lineReset => exact metersOk_of_same rfl reset_metersOk
      case requestReset =>
        simp only [effect, Gateway.requestReset]
        split
        · exact metersOk_of_same rfl reset_metersOk
        · exact h
      case tick => exact tick_metersOk h
      case bootPageLoad =>
        simp only [effect, Gateway.bootPageLoad]
        split
        · split
          · rename_i n _ _
            rw [loadPage_eq]
            have begun : (g.pageBegun n).MetersOk := h
            repeat' split
            · exact metersOk_of_allBut (loadPort_allBut _ _) (by decide) begun
            · exact metersOk_of_allBut (loadGeneral_allBut _ _) (by decide) begun
            · exact metersOk_of_allBut (loadGroup_allBut _ _) (by decide) begun
            · exact loadMeters_metersOk begun _ _
            · exact metersOk_of_allBut (loadRoute_allBut _ _ _) (by decide) begun
          · exact h
        · exact h
        · exact h
      case bootLoadEnd =>
        simp only [effect, Gateway.bootLoadEnd]
        repeat' split
        · exact endLoad_keeps latch_metersOk (started_metersOk h)
        all_goals exact h
      case receiveCompletion p bytes check =>
        simp only [effect, Gateway.receiveCompletion]
        repeat' split
        · exact settle_metersOk (complete_metersOk h p _ check)
        all_goals exact h
      case holdRetest p =>
        simp only [effect, Gateway.holdRetest]
        split
        · exact settle_metersOk ((retestHold_metersDebited _ p _ _).metersOk (metersOk_of_same (by simp) h))
        · exact h

/-! ## Entries of the Route Table (R71, R75, R164) -/

theorem routeWord_set (route : List Word) (i : Nat) (v : Word) (e w : Nat) :
    routeWord (route.set i v) e w = if 12 * e + w = i ∧ i < route.length then v else routeWord route e w := by
  unfold routeWord
  rw [List.getD_eq_getElem?_getD, List.getD_eq_getElem?_getD, List.getElem?_set]
  by_cases at_ : i = 12 * e + w
  · subst at_
    by_cases inside : 12 * e + w < route.length
    · simp [inside]
    · simp [inside]
  · rw [if_neg at_, if_neg fun both => at_ both.1.symm]

/-- Whether an entry is well-formed is a matter of its words 0, 7 and 10 (R71). -/
theorem entryWellFormed_congr {route route' : List Word} {e : Nat} (w0 : routeWord route e 0 = routeWord route' e 0)
    (w7 : routeWord route e 7 = routeWord route' e 7) (w10 : routeWord route e 10 = routeWord route' e 10) :
    entryWellFormed route e = entryWellFormed route' e := by
  simp only [entryWellFormed, w0, w7, w10]

theorem routeWellFormed_iff (route : List Word) :
    routeWellFormed route = true ↔
      ∀ e < 64, entryValid (routeWord route e 0) = true → entryWellFormed route e = true := by
  simp only [routeWellFormed, List.all_eq_true, List.mem_range, Bool.or_eq_true, Bool.not_eq_true']
  refine forall₂_congr fun e _ => ?_
  cases entryValid (routeWord route e 0) <;> simp

/-- A word 11 written leaves every entry as well-formed as it was (R71, R75). -/
theorem routeWellFormed_set_hits {route : List Word} (h : routeWellFormed route = true) (e : Nat) (v : Word) :
    routeWellFormed (route.set (12 * e + 11) v) = true := by
  have same : ∀ e' w, w < 11 → routeWord (route.set (12 * e + 11) v) e' w = routeWord route e' w := by
    intro e' w small
    rw [routeWord_set, if_neg (by omega)]
  rw [routeWellFormed_iff] at h ⊢
  intro e' inside valid
  rw [same _ _ (by decide)] at valid
  rw [entryWellFormed_congr (same _ _ (by decide)) (same _ _ (by decide)) (same _ _ (by decide))]
  exact h e' inside valid

/-- What the settling of one entry leaves of a word (R164). -/
theorem settleEntry_word (s : Store) {route : List Word} {e : Nat} (inside : 12 * e + 11 < route.length) (e' w : Nat)
    (small : w < 12) :
    routeWord (settleEntry s route e) e' w =
      if e' = e ∧ w = 11 then 0
      else if e' = e ∧ w = 0 ∧ (entryTorn s e || !entryWellFormed route e) = true then routeWord route e 0 &&& 0x7FFF
      else routeWord route e' w := by
  have here : 12 * e' + w = 12 * e ↔ e' = e ∧ w = 0 := by omega
  have last : 12 * e' + w = 12 * e + 11 ↔ e' = e ∧ w = 11 := by omega
  unfold settleEntry
  dsimp only
  split
  · rename_i bad
    simp only [invalidate, routeWord_set, List.length_set, here, last, inside, and_true,
      Nat.lt_of_le_of_lt (Nat.le_add_right (12 * e) 11) inside, bad]
  · rename_i good
    simp only [routeWord_set, last, inside, and_true, good]
    simp

theorem settleEntry_length (s : Store) (route : List Word) (e : Nat) :
    (settleEntry s route e).length = route.length := by
  unfold settleEntry invalidate
  dsimp only
  split <;> simp

/-- What is left of a word of an entry once the table is settled (R164). -/
def settledWord (s : Store) (route : List Word) (e w : Nat) : Word :=
  if w = 11 then 0
  else if w = 0 ∧ (entryTorn s e || !entryWellFormed route e) = true then routeWord route e 0 &&& 0x7FFF
  else routeWord route e w

theorem settleRoute_length (s : Store) (route : List Word) : (settleRoute s route).length = route.length :=
  foldl_induction (P := fun r : List Word => r.length = route.length) _ rfl fun r e _ length =>
    (settleEntry_length s r e).trans length

theorem settleRoute_word (s : Store) {route : List Word} (length : route.length = 768) {e w : Nat} (entry : e < 64)
    (small : w < 12) : routeWord (settleRoute s route) e w = settledWord s route e w := by
  have all : ∀ e < 64, ∀ w < 12, routeWord (settleRoute s route) e w =
      if e < 64 then settledWord s route e w else routeWord route e w := by
    refine (foldl_range_induction (P := fun n (r : List Word) => r.length = 768 ∧ ∀ e < 64, ∀ w < 12,
      routeWord r e w = if e < n then settledWord s route e w else routeWord route e w) ?_ 64 ?_).2
    · exact ⟨length, fun e _ w _ => by simp⟩
    · rintro n below r ⟨size, before⟩
      refine ⟨(settleEntry_length s r n).trans size, fun e entry w small => ?_⟩
      rw [settleEntry_word s (by omega) e w small]
      by_cases now : e = n
      · subst now
        have untouched : ∀ w < 12, routeWord r e w = routeWord route e w := fun w small => by
          rw [before e entry w small, if_neg (Nat.lt_irrefl e)]
        have formed : entryWellFormed r e = entryWellFormed route e :=
          entryWellFormed_congr (untouched 0 (by decide)) (untouched 7 (by decide)) (untouched 10 (by decide))
        simp only [true_and, Nat.lt_succ_self, if_true, settledWord, formed, untouched 0 (by decide), untouched w small]
      · have later : e < n + 1 ↔ e < n := by omega
        rw [if_neg fun both => now both.1, if_neg fun both => now both.1, before e entry w small]
        simp only [later]
  rw [all e entry w small, if_pos entry]

/-- The settled table holds only well-formed valid entries (R71, R164). -/
theorem settleRoute_wellFormed (s : Store) {route : List Word} (length : route.length = 768) :
    routeWellFormed (settleRoute s route) = true := by
  rw [routeWellFormed_iff]
  intro e entry valid
  have word := fun w small => settleRoute_word s length (e := e) (w := w) entry small
  rw [word 0 (by decide), settledWord, if_neg (by decide)] at valid
  by_cases bad : (entryTorn s e || !entryWellFormed route e) = true
  · rw [if_pos ⟨rfl, bad⟩] at valid
    simp [entryValid] at valid
  · have formed : entryWellFormed route e = true := by
      simp only [Bool.or_eq_true, Bool.not_eq_true', not_or, Bool.not_eq_false] at bad
      exact bad.2
    rw [entryWellFormed_congr (route' := route), formed]
    · rw [word 0 (by decide), settledWord, if_neg (by decide), if_neg fun both => bad both.2]
    · rw [word 7 (by decide), settledWord, if_neg (by decide), if_neg (by simp)]
    · rw [word 10 (by decide), settledWord, if_neg (by decide), if_neg (by simp)]

/-! ## The Route Table through the commands -/

theorem routeOk_of_same {g t : Gateway} (route : t.route = g.route) (phase : t.phase = g.phase) (h : g.RouteOk) :
    t.RouteOk := by
  simpa only [Gateway.RouteOk, route, phase] using h

theorem routeOk_of_allBut {l : List Part} {g t : Gateway} (frame : AllBut l g t) (route : .route ∉ l)
    (phase : .phase ∉ l) (h : g.RouteOk) : t.RouteOk :=
  routeOk_of_same (frame .route route) (frame .phase phase) h

/-- Outside the running part only the size of the table is claimed. -/
theorem routeOk_of_loading {g : Gateway} (length : g.route.length = 768) (out : g.phase ≠ .running) : g.RouteOk :=
  ⟨length, fun running => absurd running out⟩

theorem latch_routeOk {g : Gateway} (src : Source) (h : g.RouteOk) : (g.latch src).RouteOk :=
  routeOk_of_allBut (latch_allBut g src) (by decide) (by decide) h

theorem settle_routeOk {g : Gateway} (h : g.RouteOk) : g.settle.RouteOk :=
  routeOk_of_allBut (settle_allBut g) (by decide) (by decide) h

theorem started_routeOk {g : Gateway} (length : g.route.length = 768) : g.started.RouteOk :=
  ⟨(settleRoute_length g.store g.route).trans length, fun _ => settleRoute_wellFormed g.store length⟩

theorem routeHit_routeOk {g : Gateway} (h : g.RouteOk) (p : PortId) (f : Frame) :
    ({ g with route := g.routeHit p f }).RouteOk := by
  unfold Gateway.routeHit
  split
  · exact ⟨by simpa [bumpHit] using h.1, fun running => routeWellFormed_set_hits (h.2 running) _ _⟩
  · exact h

theorem decisionParts_routeOk {g t : Gateway} (frame : AllBut decisionParts g t) (h : g.RouteOk) : t.RouteOk :=
  routeOk_of_allBut frame (by decide) (by decide) h

theorem classify_routeOk {g : Gateway} (h : g.RouteOk) (p : PortId) (f : Frame) : (g.classify p f).RouteOk := by
  unfold Gateway.classify
  dsimp only
  split
  · exact decisionParts_routeOk (silent_allBut_decisionParts g p _) h
  · split
    · exact decisionParts_routeOk (getD_allBut (fun _ claimed => (claimManagement_allBut claimed).mono (by decide))
        (holdOrBusy_allBut_decisionParts g p _)) h
    · rw [decideRoute_eq]
      exact decisionParts_routeOk (decideAction_allBut _ p _ f) (routeHit_routeOk h p f)

theorem complete_routeOk {g : Gateway} (h : g.RouteOk) (p : PortId) (f : Frame) (check : Word) :
    (g.complete p f check).RouteOk := by
  have counted : ∀ c, ((g.modPort p (·.stage f check)).count p c).RouteOk := fun c =>
    routeOk_of_same (by simp) (by simp) h
  unfold Gateway.complete
  dsimp only
  repeat' split
  · exact latch_routeOk _ (counted _)
  · exact counted _
  · exact classify_routeOk (counted _) p f
  · exact counted _

theorem writeRouteWords_length (route : List Word) (targets : List (Nat × Word)) :
    (writeRouteWords route targets).length = route.length :=
  foldl_induction (P := fun r : List Word => r.length = route.length) _ rfl fun r iw _ length => by simpa using length

theorem opBody_routeOk {g : Gateway} (h : g.RouteOk) (k : Nat) (op : Op) (ex : Execution) :
    (g.opBody k op ex).Leaves Gateway.RouteOk := by
  by_cases write : ∃ ws, op = .write ws
  · obtain ⟨ws, rfl⟩ := write
    refine writeWindow_leaves fun t outcome => ?_
    obtain ⟨-, -, -, -, -, -, -, formed, rfl⟩ := writeWindow_done outcome
    refine routeOk_of_allBut (moveWindow_allBut _ _) (by decide) (by decide) ?_
    have frame := writeTable_allBut g g.windowTable (writeTargets g.windowTable g.windowIndex ws)
    cases table : g.windowTable <;> rw [table] at frame formed
    case route =>
      exact ⟨(writeRouteWords_length _ _).trans h.1, fun _ => formed rfl⟩
    all_goals exact routeOk_of_allBut frame (by decide) (by decide) h
  · refine (opBody_leaves g k op ex).mono fun t frame => routeOk_of_allBut frame ?_ ?_ h
    · cases op <;> first | (exact absurd ⟨_, rfl⟩ write) | simp [Op.changes, endParts]
    · cases op <;> simp [Op.changes, endParts]

theorem loadRoute_length (g : Gateway) (page : Page) (n : Nat) : (g.loadRoute page n).route.length = g.route.length := by
  unfold Gateway.loadRoute
  dsimp only
  generalize List.range 16 = ks
  exact foldl_induction (P := fun r : List Word => r.length = g.route.length) _ rfl fun r w _ length => by
    rw [List.length_set, length]

theorem routeOk_kept : Kept Gateway.RouteOk := by
  refine kept_of_effect fun c g h => ?_
  have size : Gateway.reset.route.length = 768 := List.length_replicate (n := 768) (a := (0 : Word))
  cases operation : runsOperation c
  case true =>
    exact operation_keeps_of_frame (fun frame => routeOk_of_allBut frame (by decide) (by decide)) h
      (fun op k _ _ => opBody_routeOk h k op) (effect_operationStep c g operation)
  case false =>
    by_cases quiet : .route ∉ touches c ∧ .phase ∉ touches c
    · exact routeOk_of_allBut (effect_allBut c g operation) quiet.1 quiet.2 h
    · cases c <;> first
        | (cases operation; done)
        | (simp [touches, endParts, replyParts, decisionParts] at quiet; done)
        | skip
      case powerOnReset => exact routeOk_of_loading size Phase.noConfusion
      case lineReset => exact routeOk_of_loading size Phase.noConfusion
      case requestReset =>
        simp only [effect, Gateway.requestReset]
        split
        · exact routeOk_of_loading size Phase.noConfusion
        · exact h
      case resetRelease =>
        simp only [effect, Gateway.resetRelease]
        split
        · exact routeOk_of_loading h.1 Phase.noConfusion
        · exact h
      case bootPageLoad =>
        simp only [effect, Gateway.bootPageLoad]
        split
        · split
          · rename_i n _ _
            have begun : (g.pageBegun n).RouteOk := routeOk_of_loading h.1 Phase.noConfusion
            rw [loadPage_eq]
            repeat' split
            · exact routeOk_of_allBut (loadPort_allBut _ _) (by decide) (by decide) begun
            · exact routeOk_of_allBut (loadGeneral_allBut _ _) (by decide) (by decide) begun
            · exact routeOk_of_allBut (loadGroup_allBut _ _) (by decide) (by decide) begun
            · exact routeOk_of_allBut (loadMeters_allBut _ _ _) (by decide) (by decide) begun
            · exact routeOk_of_loading ((loadRoute_length _ _ _).trans h.1) Phase.noConfusion
          · exact h
        · exact h
        · exact h
      case bootLoadEnd =>
        simp only [effect, Gateway.bootLoadEnd]
        repeat' split
        · exact endLoad_keeps latch_routeOk (started_routeOk h.1)
        all_goals exact h
      case receiveCompletion p bytes check =>
        simp only [effect, Gateway.receiveCompletion]
        repeat' split
        · exact settle_routeOk (complete_routeOk h p _ check)
        all_goals exact h

/-! ## GROUP, window and pool-low mark (R52, R127, R132, R186) -/

/-- GROUP keeps its size, the window stands inside its table, and the pool-low mark is in range. -/
def Gateway.WindowOk (g : Gateway) : Prop :=
  g.group.length = 8 ∧ g.windowIndex < g.windowTable.size ∧ g.general.poolMark ≤ 31

theorem windowOk_of_allBut {l : List Part} {g t : Gateway} (frame : AllBut l g t) (group : .group ∉ l)
    (window : .window ∉ l) (general : .general ∉ l) (h : g.WindowOk) : t.WindowOk := by
  obtain ⟨table, index⟩ : t.windowTable = g.windowTable ∧ t.windowIndex = g.windowIndex := frame .window window
  have groups : t.group = g.group := frame .group group
  have words : t.general = g.general := frame .general general
  simpa only [Gateway.WindowOk, groups, table, index, words] using h

theorem Table.size_pos (t : Table) : 0 < t.size := by cases t <;> decide

theorem moveWindow_windowOk {g : Gateway} (h : g.WindowOk) (n : Nat) : (g.moveWindow n).WindowOk :=
  ⟨h.1, Nat.mod_lt _ (Table.size_pos _), h.2.2⟩

theorem foldl_set_length (targets : List (Nat × Word)) (ws : List Word) :
    (targets.foldl (fun (ws : List Word) (iw : Nat × Word) => ws.set iw.1 iw.2) ws).length = ws.length :=
  foldl_induction (P := fun r : List Word => r.length = ws.length) _ rfl fun r iw _ length => by simpa using length

theorem writeBin_length (p : PortId) (value : Bool) (ws : List Word) (b : Nat) :
    (writeBin p value ws b).length = ws.length := by
  simp [writeBin]

theorem poolMark_set {w : General} {i : Nat} {v : Word} (h : w.poolMark ≤ 31) (range : i = 10 → poolMarkOf v ≤ 31) :
    (w.set i v).poolMark ≤ 31 := by
  unfold General.set
  split
  case h_11 => exact range rfl
  all_goals exact h

/-- A loaded pool word carries a mark in range (R52, R163). -/
theorem poolMarkOf_loadedPoolWord (v : Word) : poolMarkOf (loadedPoolWord v) ≤ 31 := by
  unfold loadedPoolWord
  split
  · assumption
  · have low : ((v &&& 0xFF00) ||| 4).setWidth 8 = (4 : BitVec 8) := by
      simp [BitVec.setWidth_or, BitVec.setWidth_and]
    have number := congrArg BitVec.toNat low
    rw [BitVec.toNat_setWidth] at number
    simp only [poolMarkOf, field, Nat.pow_zero, Nat.div_one, number]
    decide

theorem poolMark_loadedGeneral (page : Page) : (loadedGeneral page).poolMark ≤ 31 := by
  have reset : General.reset.poolMark ≤ 31 := by decide
  refine foldl_induction (P := fun w : General => w.poolMark ≤ 31) _ reset fun w i _ before => ?_
  refine poolMark_set before fun last => ?_
  rw [if_pos last]
  exact poolMarkOf_loadedPoolWord _

theorem reset_windowOk : Gateway.reset.WindowOk :=
  ⟨List.length_replicate (n := 8) (a := (0 : Word)), Nat.zero_lt_succ 15, by decide⟩

theorem general_windowOk {g : Gateway} {w : General} (h : g.WindowOk) (mark : w.poolMark ≤ 31) :
    ({ g with general := w }).evalPool.WindowOk :=
  windowOk_of_allBut (evalPool_allBut _) (by decide) (by decide) (by decide)
    (show ({ g with general := w }).WindowOk from ⟨h.1, h.2.1, mark⟩)

theorem writeTable_windowOk {g : Gateway} (h : g.WindowOk) (t : Table) (targets : List (Nat × Word))
    (inRange : ∀ iw ∈ targets, targetInRange t iw.1 iw.2 = true) : (g.writeTable t targets).WindowOk := by
  have frame := writeTable_allBut g t targets
  cases t
  case general =>
    refine general_windowOk h (foldl_induction (P := fun w : General => w.poolMark ≤ 31) _ h.2.2 ?_)
    intro w iw mem before
    refine poolMark_set before fun mark => ?_
    simpa [targetInRange, mark] using inRange iw mem
  case group => exact ⟨(foldl_set_length targets g.group).trans h.1, h.2⟩
  all_goals exact windowOk_of_allBut frame (by decide) (by decide) (by decide) h

theorem opBody_windowOk {g : Gateway} (h : g.WindowOk) (k : Nat) (op : Op) (ex : Execution) :
    (g.opBody k op ex).Leaves Gateway.WindowOk := by
  by_cases quiet : .group ∉ op.changes ∧ .window ∉ op.changes ∧ .general ∉ op.changes
  · refine (opBody_leaves g k op ex).mono fun t frame => windowOk_of_allBut frame ?_ ?_ ?_ h
    · simp [quiet.1, endParts]
    · simp [quiet.2.1, endParts]
    · simp [quiet.2.2, endParts]
  · have bins : ∀ port bins value, (g.writeBins port bins value).Leaves Gateway.WindowOk := by
      intro port bins value
      unfold Gateway.writeBins
      split
      · trivial
      · refine ⟨?_, h.2⟩
        exact foldl_induction (P := fun r : List Word => r.length = 8) _ h.1 fun r b _ length => by
          rw [writeBin_length, length]
    cases op <;> first | (simp [Op.changes] at quiet; done) | skip
    case select table index =>
      simp only [Gateway.opBody, Gateway.selectWindow]
      split
      · trivial
      · split
        · exact ⟨h.1, by assumption, h.2.2⟩
        · trivial
    case read n =>
      simp only [Gateway.opBody, Gateway.readWindow]
      split
      · exact readWords_leaves (fun _ => h) (fun _ => moveWindow_windowOk h n) ex _ _ _ _
      · trivial
    case write ws =>
      refine writeWindow_leaves fun t outcome => ?_
      obtain ⟨-, -, -, -, -, -, inRange, -, rfl⟩ := writeWindow_done outcome
      exact moveWindow_windowOk (writeTable_windowOk h _ _ inRange) _
    case groupSet port list => exact bins port list true
    case groupClear port list => exact bins port list false
    case eventsMask w0 w1 =>
      have masks : ({ g with general := { g.general with mask0 := w0, mask1 := w1 } }).WindowOk := h
      exact windowOk_of_allBut (alertEval_allBut _) (by decide) (by decide) (by decide) masks

theorem windowOk_kept : Kept Gateway.WindowOk := by
  refine kept_of_effect fun c g h => ?_
  cases operation : runsOperation c
  case true =>
    exact operation_keeps_of_frame (fun frame => windowOk_of_allBut frame (by decide) (by decide) (by decide)) h
      (fun op k _ _ => opBody_windowOk h k op) (effect_operationStep c g operation)
  case false =>
    by_cases quiet : .group ∉ touches c ∧ .window ∉ touches c ∧ .general ∉ touches c
    · exact windowOk_of_allBut (effect_allBut c g operation) quiet.1 quiet.2.1 quiet.2.2 h
    · cases c <;> first
        | (cases operation; done)
        | (simp [touches, endParts, replyParts, decisionParts, latchParts] at quiet; done)
        | skip
      case powerOnReset => exact reset_windowOk
      case lineReset => exact reset_windowOk
      case requestReset =>
        simp only [effect, Gateway.requestReset]
        split
        · exact reset_windowOk
        · exact h
      case bootPageLoad =>
        simp only [effect, Gateway.bootPageLoad]
        split
        · split
          · rename_i n _ _
            have begun : (g.pageBegun n).WindowOk := h
            rw [loadPage_eq]
            repeat' split
            · exact windowOk_of_allBut (loadPort_allBut _ _) (by decide) (by decide) (by decide) begun
            · refine general_windowOk begun ?_
              split
              · decide
              · exact poolMark_loadedGeneral _
            · exact ⟨by simp [Gateway.loadGroup], begun.2⟩
            · exact windowOk_of_allBut (loadMeters_allBut _ _ _) (by decide) (by decide) (by decide) begun
            · exact windowOk_of_allBut (loadRoute_allBut _ _ _) (by decide) (by decide) (by decide) begun
          · exact h
        · exact h
        · exact h

/-! ## The counters (R167, R168) -/

/-- The block of counters keeps its size. -/
def Gateway.CountersSized (g : Gateway) : Prop :=
  g.counters.length = 48

theorem countersSized_of_allBut {l : List Part} {g t : Gateway} (frame : AllBut l g t) (counters : .counters ∉ l)
    (h : g.CountersSized) : t.CountersSized :=
  (congrArg List.length (frame .counters counters)).trans h

theorem clearBlock_length (counters : List Word) (block : Nat) : (clearBlock counters block).length = counters.length :=
  foldl_induction (P := fun r : List Word => r.length = counters.length) _ rfl fun r w _ length => by simpa using length

theorem countersSized_invariant : MonitorInvariant Gateway.CountersSized where
  port p q _ h := countersSized_of_allBut (modPort_allBut_ports _ p fun _ => q) (by decide) h
  counters i n h := (List.length_set ..).trans h
  restart _ h := h
  latch src h := countersSized_of_allBut (latch_allBut _ src) (by decide) h
  pool h frame _ := countersSized_of_allBut (evalPool_allBut _) (by decide) (countersSized_of_allBut frame (by decide) h)
  prompts p h := countersSized_of_allBut (promptEgress_allBut _ p) (by cases p <;> decide) h
  aside frame h := countersSized_of_allBut frame (by decide) h
  general {g} w h := countersSized_of_allBut (g := { g with general := w }) (evalPool_allBut _) (by decide) h
  masks w0 w1 h := countersSized_of_allBut (replaceMasks_allBut _ w0 w1) (by decide) h
  clear w0 w1 h := countersSized_of_allBut (clearFlags_allBut _ w0 w1) (by decide) h
  link _ _ h frame _ _ :=
    countersSized_of_allBut (evalLevel_allBut _ _ _) (by decide) (countersSized_of_allBut frame (by decide) h)
  capture h _ _ moved _ counted :=
    countersSized_of_allBut (evalLevel_allBut _ _ _) (by decide) (counted.trans (moved.trans h))
  storeSteady _ _ h := h
  storeStarts {g} s h := countersSized_of_allBut (g := { g with store := s }) (evalLevel_allBut _ _ _) (by decide) h
  storeCompletes {g} s h := countersSized_of_allBut (evalLevel_allBut _ _ _) (by decide)
    (countersSized_of_allBut (g := { g with store := s }) (latch_allBut _ _) (by decide) h)
  reset _ _ := List.length_replicate (n := 48) (a := (0 : Word))

theorem countersSized_kept : Kept Gateway.CountersSized :=
  kept_of_effect fun c g h =>
    countersSized_invariant.effect_keeps c h (fun block => (clearBlock_length _ _).trans h) fun _ =>
      endLoad_keeps (fun {_} src holds => countersSized_invariant.latch src holds)
        (countersSized_of_allBut (started_allBut g) (by decide) h)

theorem tablesOk_kept : Kept Gateway.TablesOk := by
  intro s s' ⟨group, counters, index, mark⟩ next
  obtain ⟨group', index', mark'⟩ := windowOk_kept s s' ⟨group, index, mark⟩ next
  exact ⟨group', countersSized_kept s s' counters next, index', mark'⟩

/-- Settles O57, by one invariant a table: what changes a table is a claim's debit, a refill, a WRITE judged before, a
page of the Boot Load or its end, and each keeps the table's range. -/
theorem tablesKept : Obligations.TablesKept :=
  ⟨metersOk_kept, routeOk_kept, tablesOk_kept⟩

end Sys2Proof.Machine
end

section
/-! SUPPORT. The selections at the end of an event leave none due (R57, R58): two rounds are enough, since the first
leaves no old head and ALERT can rise once. -/

open Sys2Proof

namespace Sys2Proof.Machine

/-! ## How many heads a selection can meet -/

/-- The frames queued on a port. -/
def Port.queued (q : Port) : Nat :=
  q.urgent.length + q.normal.length

/-- How often ALERT can still rise while flags are latched and none is cleared or masked (R176, R177). -/
def Gateway.raisesLeft (g : Gateway) : Nat :=
  if g.asserts && g.monitor.alert then 0 else 1

/-- How many heads a selection of port `p` can meet: the queued frames, and one notice if ALERT can still rise. -/
def Gateway.headsLeft (g : Gateway) (p : PortId) : Nat :=
  (g.port p).queued + g.raisesLeft

theorem raisesLeft_le_one (g : Gateway) : g.raisesLeft ≤ 1 := by
  unfold Gateway.raisesLeft
  split <;> decide

theorem raisesLeft_le {g t : Gateway} (asserts : g.asserts = true → t.asserts = true)
    (alert : g.monitor.alert = true → t.monitor.alert = true) : t.raisesLeft ≤ g.raisesLeft := by
  by_cases up : (g.asserts && g.monitor.alert) = true
  · simp only [Bool.and_eq_true] at up
    simp [Gateway.raisesLeft, asserts up.1, alert up.2]
  · simpa [Gateway.raisesLeft, up] using raisesLeft_le_one t

theorem headsLeft_le_of_same {g t : Gateway} {p : PortId} (queued : (t.port p).queued = (g.port p).queued)
    (monitor : t.monitor = g.monitor) (general : t.general = g.general) : t.headsLeft p ≤ g.headsLeft p := by
  refine Nat.add_le_add queued.le (raisesLeft_le (fun up => ?_) fun up => by rw [monitor, up])
  simpa only [Gateway.asserts, monitor, general] using up

theorem promptIf_queued (c : DecisionRecord → Bool) (q : Port) : (Port.promptIf c q).queued = q.queued := by
  rw [promptIf_eq]
  rfl

theorem pauseAsk_queued (q : Port) : q.pauseAsk.queued = q.queued := by
  unfold Port.pauseAsk
  repeat' split
  all_goals rfl

theorem enqueue_queued (q : Port) (name : QueueName) (b : PoolBuffer) : (q.enqueue name b).queued = q.queued + 1 := by
  cases name <;> simp [Port.queued, Port.enqueue] <;> omega

/-- A change of both ports that keeps what a port has queued keeps what the part has. -/
theorem modBoth_queued (g : Gateway) (f : Port → Port) (keeps : ∀ q, (f q).queued = q.queued) (x : PortId) :
    (((g.modPort .a f).modPort .b f).port x).queued = (g.port x).queued := by
  cases x <;> exact keeps _

/-- What a re-evaluation of POOL_LOW does to a port: nothing, or a PAUSE ask (R51). -/
theorem poolEval_port (g : Gateway) (x : PortId) :
    g.poolEval.port x = g.port x ∨ g.poolEval.port x = (g.port x).pauseAsk := by
  unfold Gateway.poolEval
  dsimp only
  split
  · exact .inr (by cases x <;> rfl)
  · exact .inl (by cases x <;> rfl)

theorem poolEval_queued (g : Gateway) (x : PortId) : (g.poolEval.port x).queued = (g.port x).queued := by
  rcases poolEval_port g x with same | asked
  · rw [same]
  · rw [asked, pauseAsk_queued]

theorem poolEval_asserts {g : Gateway} (h : g.asserts = true) : g.poolEval.asserts = true := by
  have general : g.poolEval.general = g.general := poolEval_allBut g .general (by decide)
  simp only [Gateway.asserts, poolEval_monitor, general]
  exact handLevel_asserts _ _ _ _ _ _ h

theorem poolEval_alert (g : Gateway) : g.poolEval.monitor.alert = g.monitor.alert := by
  rw [poolEval_monitor, handLevel_alert]

theorem noticeAsk_asserts {g : Gateway} (h : g.asserts = true) : g.noticeAsk.asserts = true := by
  unfold Gateway.noticeAsk
  dsimp only
  repeat' split
  · exact h
  · refine poolEval_asserts ?_
    simpa [Gateway.asserts] using h
  · exact setFlag_asserts _ _ _ _ h

theorem noticeAsk_alert (g : Gateway) : g.noticeAsk.monitor.alert = g.monitor.alert := by
  unfold Gateway.noticeAsk
  dsimp only
  repeat' split
  · rfl
  · rw [poolEval_alert]
    simp
  · rfl

/-- A notice puts one frame into a queue at most (R144). -/
theorem noticeAsk_queued (g : Gateway) (x : PortId) : (g.noticeAsk.port x).queued ≤ (g.port x).queued + 1 := by
  unfold Gateway.noticeAsk
  dsimp only
  repeat' split
  · exact Nat.le_succ _
  · rw [poolEval_queued]
    rcases PortId.eq_or_other g.noticeBuffer.ingress x with rfl | rfl
    · rw [Gateway.port_modPort_self, enqueue_queued]
      rfl
    · rw [Gateway.port_modPort_other]
      exact Nat.le_succ _
  · exact Nat.le_succ _

theorem alertEval_headsLeft (g : Gateway) (p : PortId) : g.alertEval.headsLeft p ≤ g.headsLeft p := by
  unfold Gateway.alertEval
  dsimp only
  split
  · rename_i rising
    simp only [Bool.and_eq_true, Bool.not_eq_true'] at rising
    let r : Gateway := { g with monitor := { g.monitor with alert := g.asserts } }
    have asserts : r.noticeAsk.asserts = true := noticeAsk_asserts (g := r) rising.1
    have alert : r.noticeAsk.monitor.alert = true := (noticeAsk_alert r).trans rising.1
    have now : r.noticeAsk.raisesLeft = 0 := by simp [Gateway.raisesLeft, asserts, alert]
    have before : g.raisesLeft = 1 := by simp [Gateway.raisesLeft, rising.2]
    have queued := noticeAsk_queued r p
    show (r.noticeAsk.port p).queued + r.noticeAsk.raisesLeft ≤ (g.port p).queued + g.raisesLeft
    rw [now, before]
    exact queued
  · refine Nat.add_le_add_left ?_ _
    by_cases up : g.asserts = true
    · exact raisesLeft_le id fun _ => up
    · simp [Gateway.raisesLeft, up]

theorem latch_headsLeft (g : Gateway) (src : Source) (p : PortId) : (g.latch src).headsLeft p ≤ g.headsLeft p := by
  have raises : (g.setFlag src).raisesLeft ≤ g.raisesLeft := raisesLeft_le (setFlag_asserts _ _ _ _) id
  exact (alertEval_headsLeft _ p).trans (Nat.add_le_add_left raises (g.port p).queued)

theorem evalPool_headsLeft (g : Gateway) (p : PortId) : g.evalPool.headsLeft p ≤ g.headsLeft p := by
  refine (alertEval_headsLeft _ p).trans ?_
  have raises : g.poolEval.raisesLeft ≤ g.raisesLeft :=
    raisesLeft_le poolEval_asserts fun up => (poolEval_alert g).trans up
  simp only [Gateway.headsLeft, poolEval_queued]
  exact Nat.add_le_add_left raises _

/-- What the report of a frame's end can do: nothing, make a restart due, or report a failed notice (R61). -/
theorem reportEnd_eq_or (g : Gateway) (b : PoolBuffer) (kind : EndKind) :
    g.reportEnd b kind = g ∨ g.reportEnd b kind = { g with restart := .due } ∨
      g.reportEnd b kind = g.latch .noticeFailed := by
  unfold Gateway.reportEnd
  cases b.origin <;> cases kind <;> cases b.awaited <;> simp

theorem reportEnd_headsLeft (g : Gateway) (b : PoolBuffer) (kind : EndKind) (p : PortId) :
    (g.reportEnd b kind).headsLeft p ≤ g.headsLeft p := by
  rcases reportEnd_eq_or g b kind with same | due | failed
  · rw [same]
  · rw [due]
    exact headsLeft_le_of_same (by cases p <;> rfl) rfl rfl
  · rw [failed]
    exact latch_headsLeft g _ p

theorem giveBack_queued (g : Gateway) (n : Nat) (x : PortId) : ((g.giveBack n).port x).queued = (g.port x).queued :=
  (modBoth_queued { g with free := g.free + n } _ (promptIf_queued _) x).trans (by cases x <;> rfl)

theorem promptEgress_queued (g : Gateway) (p x : PortId) : ((g.promptEgress p).port x).queued = (g.port x).queued := by
  cases p <;> cases x <;> simp [Gateway.promptEgress, Gateway.modPort, promptIf_queued]

/-- A buffer returned and its egress count fallen, with what follows of it, bring no head (R49, R50). -/
theorem returned_headsLeft (g : Gateway) (n : Nat) (p x : PortId) :
    (((g.giveBack n).promptEgress p).evalPool).headsLeft x ≤ g.headsLeft x := by
  have frame : AllBut [.portA, .portB, .free, .agentQueue] g ((g.giveBack n).promptEgress p) :=
    ((giveBack_allBut g n).mono (by decide)).trans ((promptEgress_allBut _ p).mono (by cases p <;> decide))
  have queued : (((g.giveBack n).promptEgress p).port x).queued = (g.port x).queued := by
    rw [promptEgress_queued, giveBack_queued]
  exact (evalPool_headsLeft _ x).trans
    (headsLeft_le_of_same queued (frame .monitor (by decide)) (frame .general (by decide)))

theorem head_queued {q r : Port} {e : QueueEntry} (h : q.head = some (e, r)) : r.queued + 1 = q.queued := by
  unfold Port.head at h
  split at h <;> cases h
  all_goals
    simp only [Port.queued, List.length_cons, *]
    omega

theorem head_eq_none {q : Port} (h : q.head = none) : q.urgent = [] ∧ q.normal = [] := by
  unfold Port.head at h
  split at h <;> simp_all

/-- Each old head that is discarded is one head less (R60). -/
theorem discardAged_headsLeft {g : Gateway} {p : PortId} {e : QueueEntry} {q : Port}
    (h : (g.port p).head = some (e, q)) : (g.discardAged p e q).headsLeft p + 1 ≤ g.headsLeft p := by
  have counted : ((g.setPort p q).count p .aged).headsLeft p ≤ (g.setPort p q).headsLeft p :=
    headsLeft_le_of_same (by cases p <;> rfl) rfl rfl
  have latched := (latch_headsLeft ((g.setPort p q).count p .aged) (.aged p) p).trans counted
  have later : (g.discardAged p e q).headsLeft p ≤ (g.setPort p q).headsLeft p :=
    ((reportEnd_headsLeft _ e.buf .aged p).trans (returned_headsLeft _ 1 p p)).trans latched
  have less := head_queued h
  have taken : (g.setPort p q).headsLeft p = q.queued + g.raisesLeft := by cases p <;> rfl
  have whole : g.headsLeft p = (g.port p).queued + g.raisesLeft := rfl
  omega

/-- With a step for every head that can come and one more, a selection ends with a filled slot or empty queues. -/
theorem selectFrame_ends (fuel : Nat) (p : PortId) (g : Gateway) (enough : g.headsLeft p < fuel) :
    ((Gateway.selectFrame fuel p g).port p).slot ≠ .empty ∨ ((Gateway.selectFrame fuel p g).port p).queued = 0 := by
  induction fuel generalizing g with
  | zero => omega
  | succ fuel ih =>
    unfold Gateway.selectFrame
    split
    · rename_i none
      obtain ⟨urgent, normal⟩ := head_eq_none none
      exact .inr (by simp [Port.queued, urgent, normal])
    · rename_i e q head
      split
      · have less := discardAged_headsLeft head
        exact ih _ (by omega)
      · refine .inl ?_
        rw [Gateway.port_setPort_self]
        simp [Port.loadSlot]

/-! ## Selections leave no old head -/

theorem Port.nothingAged_of_queued {q : Port} (h : q.slot ≠ .empty ∨ q.queued = 0) : q.NothingAged := by
  intro active empty running
  rcases h with full | none
  · exact absurd empty full
  · have urgent : q.urgent = [] := List.length_eq_zero_iff.mp (by simp only [Port.queued] at none; omega)
    have normal : q.normal = [] := List.length_eq_zero_iff.mp (by simp only [Port.queued] at none; omega)
    simp [urgent, normal]

theorem Port.nothingAged_congr {q r : Port} (state : r.state = q.state) (slot : r.slot = q.slot)
    (pause : r.pause = q.pause) (urgent : r.urgent = q.urgent) (normal : r.normal = q.normal) (words : r.words = q.words)
    (h : q.NothingAged) : r.NothingAged := by
  simpa only [Port.NothingAged, Port.isOld, state, slot, pause, urgent, normal, words] using h

theorem promptIf_nothingAged {c : DecisionRecord → Bool} {q : Port} (h : q.NothingAged) :
    (Port.promptIf c q).NothingAged := by
  rw [promptIf_eq]
  exact Port.nothingAged_congr rfl rfl rfl rfl rfl rfl h

theorem evalPool_sendsOnly (g : Gateway) : g.SendsOnly g.evalPool :=
  (poolEval_sendsOnly g).trans (alertEval_sendsOnly g.poolEval)

/-- The discard of a port's old head leaves the other port as free of old frames as it was. -/
theorem discardAged_nothingAged {g : Gateway} {p : PortId} {e : QueueEntry} {q : Port}
    (h : (g.port p.other).NothingAged) : ((g.discardAged p e q).port p.other).NothingAged := by
  have reported : ∀ {t : Gateway} (b : PoolBuffer) (kind : EndKind), (t.port p.other).NothingAged →
      ((t.reportEnd b kind).port p.other).NothingAged := by
    intro t b kind before
    rcases reportEnd_eq_or t b kind with same | due | failed
    · rwa [same]
    · rw [due]
      cases p <;> exact before
    · rw [failed]
      exact (latch_sendsOnly t _ p.other).nothingAged before
  have moved : ((g.setPort p q).count p .aged).port p.other = g.port p.other := by cases p <;> rfl
  have latched : ((((g.setPort p q).count p .aged).latch (.aged p)).port p.other).NothingAged :=
    (latch_sendsOnly _ _ p.other).nothingAged (by rw [moved]; exact h)
  have prompted : ∀ {t : Gateway}, (t.port p.other).NothingAged →
      (((t.giveBack 1).promptEgress p).port p.other).NothingAged := by
    intro t before
    have same : ((t.giveBack 1).promptEgress p).port p.other =
        Port.promptIf DecisionRecord.forwards (Port.promptIf (fun _ => true) (t.port p.other)) := by cases p <;> rfl
    rw [same]
    exact promptIf_nothingAged (promptIf_nothingAged before)
  exact reported _ _ ((evalPool_sendsOnly _ p.other).nothingAged (prompted latched))

theorem selectFrame_nothingAged_other (fuel : Nat) (p : PortId) {g : Gateway} (h : (g.port p.other).NothingAged) :
    ((Gateway.selectFrame fuel p g).port p.other).NothingAged := by
  induction fuel generalizing g with
  | zero => exact h
  | succ fuel ih =>
    unfold Gateway.selectFrame
    split
    · exact h
    · split
      · exact ih (discardAged_nothingAged h)
      · rw [Gateway.port_setPort_other]
        exact h

theorem takePause_other (g : Gateway) (p : PortId) : (g.takePause p).port p.other = g.port p.other := by
  unfold Gateway.takePause
  dsimp only
  repeat' split
  all_goals simp

/-- A selection leaves its own port with no old head, and the other as free of them as it was (R58, R60). -/
theorem selectEgress_nothingAged (g : Gateway) (p : PortId) :
    ((g.selectEgress p).port p).NothingAged ∧
      ((g.port p.other).NothingAged → ((g.selectEgress p).port p.other).NothingAged) := by
  unfold Gateway.selectEgress
  dsimp only
  split
  · split
    · refine ⟨Port.nothingAged_of_queued (selectFrame_ends _ p _ ?_), fun young => ?_⟩
      · have one := raisesLeft_le_one (g.takePause p)
        simp only [Gateway.headsLeft, Port.queued]
        omega
      · exact selectFrame_nothingAged_other _ p (by rw [takePause_other]; exact young)
    · rename_i idle
      refine ⟨fun active empty running => absurd ⟨empty, running⟩ idle, fun young => ?_⟩
      rw [takePause_other]
      exact young
  · rename_i idle
    exact ⟨fun active empty running => absurd ⟨active, empty⟩ idle, id⟩

/-- One selection of each port leaves no old head on either. -/
theorem selectBoth_nothingAged (g : Gateway) : ((g.selectEgress .a).selectEgress .b).NothingAged := by
  have first := (selectEgress_nothingAged g .a).1
  have second := selectEgress_nothingAged (g.selectEgress .a) .b
  rintro (_ | _)
  · exact second.2 first
  · exact second.1

/-! ## Selections without old heads leave nothing to select -/

/-- Step 1 of R58 takes the request, or there was none. -/
theorem takePause_taken (g : Gateway) (p : PortId) :
    ((g.takePause p).port p).slot ≠ .empty ∨ ((g.takePause p).port p).pendingPause = false := by
  unfold Gateway.takePause
  dsimp only
  repeat' split
  · exact .inr (by simp)
  · exact .inl (by simp [Port.loadSlot])
  · exact .inr (by simp_all)

/-- A selection that meets no old frame leaves none due on its port (R57, R58). -/
theorem selectEgress_settled {g : Gateway} (p : PortId) (young : g.NothingAged) : ((g.selectEgress p).port p).Settled := by
  unfold Gateway.selectEgress
  dsimp only
  split
  · rename_i mayTake
    split
    · rename_i mayQueue
      have active : ((g.takePause p).port p).state = .active :=
        ((takePause_sendsOnly g p) p).state.trans mayTake.1
      have noneOld := (takePause_sendsOnly g p).keeps_nothingAged young p active mayQueue.1 mayQueue.2
      unfold Gateway.selectFrame
      split
      · rename_i none
        exact fun _ empty => ⟨(takePause_taken g p).resolve_left (absurd empty), fun _ => head_eq_none none⟩
      · rename_i e q head
        rw [if_neg (by simp [noneOld e (head_mem head)]), Gateway.port_setPort_self]
        exact fun _ empty => absurd empty (by simp [Port.loadSlot])
    · rename_i idle
      exact fun _ empty => ⟨(takePause_taken g p).resolve_left (absurd empty), fun running => absurd ⟨empty, running⟩ idle⟩
  · rename_i idle
    exact fun active empty => absurd ⟨active, empty⟩ idle

theorem selectBoth_settled {g : Gateway} (young : g.NothingAged) : ((g.selectEgress .a).selectEgress .b).Settled := by
  obtain ⟨-, sends⟩ := selectEgress_of_nothingAged g .a young
  obtain ⟨frame, -⟩ := selectEgress_of_nothingAged _ .b (sends.keeps_nothingAged young)
  refine ⟨?_, selectEgress_settled .b (sends.keeps_nothingAged young)⟩
  rw [show ((g.selectEgress .a).selectEgress .b).portA = (g.selectEgress .a).portA from frame .portA (by decide)]
  exact selectEgress_settled .a young

/-- The selections at the end of an event leave none due (R57, entries 10 and 12). -/
theorem settle_settled (g : Gateway) : g.settle.Settled :=
  selectBoth_settled (selectBoth_nothingAged g)

/-! ## Commands that take no selection give none to take -/

/-- Whether a selection is due is a matter of a port's state, slot, pause, pending request and queues (R57, R58). -/
theorem Port.settled_congr {q r : Port} (state : r.state = q.state) (slot : r.slot = q.slot)
    (pending : r.pendingPause = q.pendingPause) (pause : r.pause = q.pause) (urgent : q.urgent = [] → r.urgent = [])
    (normal : q.normal = [] → r.normal = []) (h : q.Settled) : r.Settled := by
  intro active empty
  rw [state] at active
  rw [slot] at empty
  rw [pending, pause]
  obtain ⟨none, queues⟩ := h active empty
  exact ⟨none, fun running => (queues running).imp urgent normal⟩

/-- A port that is not ACTIVE makes no selection (R57). -/
theorem Port.settled_of_inactive {q : Port} (h : q.state ≠ .active) : q.Settled :=
  fun active => absurd active h

theorem Gateway.Settled.port {g : Gateway} (h : g.Settled) (p : PortId) : (g.port p).Settled := by
  cases p
  · exact h.1
  · exact h.2

theorem settled_of_same {g t : Gateway} (a : t.portA = g.portA) (b : t.portB = g.portB) (h : g.Settled) : t.Settled := by
  simpa only [Gateway.Settled, a, b] using h

theorem count_settled {g : Gateway} (p : PortId) (c : PortCounter) (h : g.Settled) : (g.count p c).Settled := h

theorem setPort_settled {g : Gateway} {p : PortId} {q : Port} (h : g.Settled) (port : q.Settled) :
    (g.setPort p q).Settled := by
  cases p
  · exact ⟨port, h.2⟩
  · exact ⟨h.1, port⟩

/-- A change that leaves what a selection looks at gives none to take. -/
theorem modPort_settled {g : Gateway} (p : PortId) {f : Port → Port} (h : g.Settled)
    (keeps : (g.port p).Settled → (f (g.port p)).Settled) : (g.modPort p f).Settled :=
  setPort_settled h (keeps (h.port p))

theorem promptIf_settled {c : DecisionRecord → Bool} {q : Port} (h : q.Settled) : (Port.promptIf c q).Settled := by
  rw [promptIf_eq]
  exact Port.settled_congr rfl rfl rfl rfl id id h

theorem tick_settled {g : Gateway} (h : g.Settled) : g.tick.Settled := by
  have aged : ∀ {q : Port}, q.Settled → q.tick.Settled := fun {q} h =>
    Port.settled_congr (q := q) rfl rfl rfl rfl (by simp [Port.tick]) (by simp [Port.tick]) h
  have refilled : ∀ {t : Gateway} (k : Nat), t.Settled → (t.refill k).Settled := by
    intro t k before
    unfold Gateway.refill
    dsimp only
    split
    · exact modPort_settled .b (modPort_settled .a before promptIf_settled) promptIf_settled
    · exact before
  unfold Gateway.tick
  split
  · have ticked : ((g.modPort .a Port.tick).modPort .b Port.tick).Settled :=
      modPort_settled .b (modPort_settled .a h aged) aged
    exact foldl_keeps (I := fun t => Gateway.Settled t) refilled (List.range 16) ticked
  · exact h

/-- What keeps each port's state keeps a part settled whose ports are not ACTIVE. -/
theorem settled_of_starting {g t : Gateway} (a : g.portA.state = .starting) (b : g.portB.state = .starting)
    (keepsA : t.portA.state = g.portA.state) (keepsB : t.portB.state = g.portB.state) : t.Settled :=
  ⟨Port.settled_of_inactive (by simp [keepsA, a]), Port.settled_of_inactive (by simp [keepsB, b])⟩

theorem loadPage_states (g : Gateway) (n : Nat) :
    (g.loadPage n).portA.state = g.portA.state ∧ (g.loadPage n).portB.state = g.portB.state := by
  have evaluated : ∀ h : Gateway, h.evalPool.portA.state = h.portA.state ∧ h.evalPool.portB.state = h.portB.state :=
    fun h => ⟨(evalPool_sendsOnly h .a).state, (evalPool_sendsOnly h .b).state⟩
  rw [loadPage_eq]
  repeat' split
  · unfold Gateway.loadPort
    split <;> exact ⟨rfl, rfl⟩
  · exact evaluated _
  all_goals exact ⟨rfl, rfl⟩

theorem latchIf_states (g : Gateway) (due : Bool) (src : Source) :
    (g.latchIf due src).portA.state = g.portA.state ∧ (g.latchIf due src).portB.state = g.portB.state := by
  unfold Gateway.latchIf
  split
  · exact ⟨(latch_sendsOnly g src .a).state, (latch_sendsOnly g src .b).state⟩
  · exact ⟨rfl, rfl⟩

/-- No port leaves STARTING as ACTIVE (R165). -/
theorem leaveStarting_inactive (q : Port) : q.leaveStarting.state ≠ .active := by
  simp only [Port.leaveStarting]
  split <;> simp

theorem endLoad_settled (g : Gateway) : g.endLoad.Settled := by
  obtain ⟨firstA, firstB⟩ := latchIf_states g.started g.store.inFlight.isSome .storeFault
  obtain ⟨secondA, secondB⟩ :=
    latchIf_states (g.started.latchIf g.store.inFlight.isSome .storeFault) g.loadFault .loadFault
  rw [endLoad_eq]
  refine ⟨Port.settled_of_inactive ?_, Port.settled_of_inactive ?_⟩
  · rw [secondA, firstA]
    exact leaveStarting_inactive _
  · rw [secondB, firstB]
    exact leaveStarting_inactive _

theorem resetBy_settled (g : Gateway) (cause : StartCause) : (g.resetBy cause).Settled :=
  ⟨Port.settled_of_inactive nofun, Port.settled_of_inactive nofun⟩

/-! ## Operations -/

/-- An operation that has words left to take changes store address and window at most (R120). -/
theorem readWords_reading {part whole : Nat → Gateway} {ex : Execution} {n k : Nat} {get : Nat → Word}
    {status : OpStatus} {taken : List Word} {t : Gateway}
    (h : ex.readWords n k get status part whole = .reading taken t) : ∃ m, t = part m := by
  unfold Execution.readWords at h
  dsimp only at h
  repeat' split at h
  all_goals cases h
  exact ⟨_, rfl⟩

theorem opBody_reading {g t : Gateway} {k : Nat} {op : Op} {ex : Execution} {taken : List Word}
    (h : g.opBody k op ex = .reading taken t) : AllBut [.store] g t := by
  cases op
  case ident =>
    simp only [Gateway.opBody] at h
    obtain ⟨m, rfl⟩ := readWords_reading (part := fun _ => g) h
    exact .refl _ t
  case eventsRead =>
    simp only [Gateway.opBody] at h
    obtain ⟨m, rfl⟩ := readWords_reading (part := fun _ => g) h
    exact .refl _ t
  case read n =>
    simp only [Gateway.opBody, Gateway.readWindow] at h
    split at h
    · obtain ⟨m, rfl⟩ := readWords_reading (part := fun _ => g) h
      exact .refl _ t
    · cases h
  case counters block =>
    simp only [Gateway.opBody, Gateway.readBlock] at h
    split at h
    · obtain ⟨m, rfl⟩ := readWords_reading (part := fun _ => g) h
      exact .refl _ t
    · cases h
  case storeRead n =>
    simp only [Gateway.opBody, Gateway.readStore] at h
    split at h
    · cases h
    · split at h
      · cases h
      · obtain ⟨m, rfl⟩ := readWords_reading h
        exact store_allBut g _
  all_goals
    simp only [Gateway.opBody, Gateway.selectWindow, Gateway.writeWindow, Gateway.writeBins, Gateway.clearCounters,
      Gateway.takeCapture, Gateway.selectStore, Gateway.fillStore, Gateway.stageStore, Gateway.startErase,
      Gateway.startWrite, Gateway.statusStore] at h
    repeat' split at h
    all_goals cases h

theorem operation_settled {g t : Gateway} (h : g.Settled) (operation : OperationStep g t) : t.Settled := by
  cases operation with
  | idle => exact h
  | restart ex runs access idle => exact settle_settled _
  | body op k ex runs =>
    unfold Gateway.runOp
    rw [runs.1]
    dsimp only
    split
    · exact settle_settled _
    · split
      · exact settle_settled _
      · rename_i outcome
        have frame := opBody_reading outcome
        exact settled_of_same (frame .portA (by decide)) (frame .portB (by decide)) h
      · exact settle_settled _

theorem abandonFrame_settled {g : Gateway} (p : PortId) (h : g.Settled) : (g.abandonFrame p).Settled := by
  unfold Gateway.abandonFrame
  split
  · exact count_settled p _ (modPort_settled p h fun before => before)
  · exact h

theorem endPause_settled (p : PortId) (n : Nat) (g : Gateway) : (g.endPause p n).Settled := by
  unfold Gateway.endPause
  dsimp only
  exact settle_settled _

theorem endSlot_settled {g : Gateway} (p : PortId) (h : g.Settled) : (g.modPort p Port.endSlot).Settled :=
  modPort_settled p h fun before => before

theorem requestDecode_settled {g : Gateway} (h : g.Settled) : g.requestDecode.Settled := by
  unfold Gateway.requestDecode
  repeat' split
  · exact h
  · exact settle_settled (g.malformed _ _)
  · exact settled_of_same rfl rfl h
  · exact h

theorem completed_settled (g : Gateway) (s : Store) : (g.completed s).Settled := by
  unfold Gateway.completed
  exact settle_settled _

theorem arbLost_settled {g : Gateway} (p : PortId) (h : g.Settled) : (g.arbLost p).Settled := by
  unfold Gateway.arbLost
  split
  · exact count_settled p _ (modPort_settled p h fun before => before)
  · exact h

theorem effect_settled {c : Instr} {g : Gateway} (phase : g.PhaseOk) (h : g.Settled) : (effect c g).Settled := by
  obtain ⟨startingA, startingB, -⟩ := phase
  cases operation : runsOperation c
  case true => exact operation_settled h (effect_operationStep c g operation)
  case false =>
    cases c <;> first | (cases operation; done) | skip
    case powerOnReset => exact resetBy_settled g _
    case lineReset => exact resetBy_settled g _
    case requestReset =>
      simp only [effect, Gateway.requestReset]
      split
      · exact resetBy_settled g .request
      · exact h
    case resetRelease =>
      simp only [effect, Gateway.resetRelease]
      split <;> exact h
    case bootPageLoad =>
      simp only [effect, Gateway.bootPageLoad]
      split
      · rename_i loading
        split
        · obtain ⟨a, b⟩ := loadPage_states g _
          exact settled_of_starting (startingA.mpr (by simp [loading])) (startingB.mpr (by simp [loading])) a b
        · exact h
      · exact h
      · exact h
    case bootLoadEnd =>
      simp only [effect, Gateway.bootLoadEnd]
      repeat' split
      · exact endLoad_settled g
      all_goals exact h
    case tick => exact tick_settled h
    case lineFaultChange p cause present =>
      refine modPort_settled p h fun before => ?_
      unfold Port.setFault
      cases cause <;> dsimp only <;> split <;> exact before
    case transmitStart p point =>
      refine modPort_settled p h fun before => ?_
      unfold Port.advance
      cases point <;> dsimp only <;> split <;> exact before
    case busIdle p bits =>
      simp only [effect, Gateway.busIdle]
      split
      · exact modPort_settled p h id
      · exact h
    case startBit p =>
      simp only [effect, Gateway.startBit]
      split
      · refine modPort_settled p h fun before => ?_
        unfold Port.startBit
        split <;> exact before
      · exact h
    case linkUp p =>
      simp only [effect, Gateway.linkUp]
      split
      · exact settle_settled _
      · exact h
    case linkDown p =>
      simp only [effect, Gateway.linkDown]
      split
      · exact settle_settled _
      · exact h
    case receiveCompletion p bytes check =>
      simp only [effect, Gateway.receiveCompletion]
      repeat' split
      · exact settle_settled _
      all_goals exact h
    case symbolError p => exact abandonFrame_settled p h
    case lengthOutOfRange p length =>
      simp only [effect, Gateway.lengthOutOfRange]
      split
      · exact abandonFrame_settled p h
      · exact h
    case pauseRx p =>
      simp only [effect, Gateway.pauseRx]
      split
      · exact endPause_settled p _ g
      · exact h
    case endDelimiter p =>
      simp only [effect, Gateway.endDelimiter]
      repeat' split
      · exact endPause_settled p _ g
      · exact endSlot_settled p h
      · exact h
    case holdRetest p =>
      simp only [effect, Gateway.holdRetest]
      split
      · exact settle_settled _
      · exact h
    case holdExpiry p =>
      simp only [effect, Gateway.holdExpiry]
      split
      · exact settle_settled _
      · exact h
    case pauseExpiry p =>
      simp only [effect, Gateway.pauseExpiry]
      split
      · exact settle_settled _
      · exact h
    case arbLost p => exact arbLost_settled p h
    case collision p =>
      simp only [effect, Gateway.collision]
      split
      · exact settle_settled _
      · exact h
    case transmitOutcome p slot =>
      simp only [effect, Gateway.transmitOutcome]
      split
      · exact settle_settled _
      · exact h
    case holdBeyondTolerance p =>
      simp only [effect, Gateway.holdBeyondTolerance]
      split
      · exact settle_settled _
      · exact h
    case requestDecode => exact requestDecode_settled h
    case replyReoffer p =>
      simp only [effect, Gateway.replyReoffer]
      split
      · exact settle_settled _
      · exact h
    case storeEraseComplete =>
      simp only [effect, Gateway.eraseComplete]
      split
      · exact completed_settled g _
      · exact h
    case storeWriteComplete =>
      simp only [effect, Gateway.writeComplete]
      split
      · exact completed_settled g _
      · exact h

/-- Settles O58, since two rounds of selections leave none due, and a command that takes none changes no port in what
a selection looks at, or leaves both out of ACTIVE. -/
theorem settledKept : Obligations.SettledKept := by
  intro s s' phase settled next
  rcases step_cases next with rfl | ⟨c, rest, -, rfl⟩
  · exact settled
  · exact effect_settled phase settled

end Sys2Proof.Machine
end

section
/-! SUPPORT. What the operations the commands share do to ports, pool and agent, as one set of rules: the changes of a
port that keep its frames, the moves of buffers between their places, and what follows for the selections, the ends of
frames, the decisions and the replies of every invariant that keeps to these rules. -/

open Sys2Proof

namespace Sys2Proof.Machine

/-! ## Changes of a port that keep its frames -/

/-- The port stands in the slot of a frame it has read and not claimed (R24, R65). -/
def Port.Awaits (q : Port) : Prop :=
  q.state = .active ∧ q.rx = .rSlot ∧ q.view = .inSlot ∧ q.staging.isSome = true ∧ q.role = .nonClaimant

/-- The view and the abort pattern as an attempt that is over leaves them: in the gap after its slot, or resynchronising
after a collision or a hold beyond tolerance (R14, R31, R32). -/
def Port.Ends (q : Port) (view : LineView) (abort : List Bool) : Prop :=
  q.tx.onLine = true ∧
    (view = .gap 0 ∧ abort = q.abort ∨
      view = .resync 0 ∧ (abort = q.abort ∨ abort = abortPattern ∧ (q.tx = .tArb ∨ q.tx = .tSend)))

/-- The port after a failed attempt that will be repeated (R33). -/
def Port.retried (q : Port) (view : LineView) (abort : List Bool) : Port :=
  { q with
    view := view, abort := abort, attempts := q.attempts + 1, tx := .tWaitIdle, sending := none, tolerance := none }

/-- The port after its last attempt (R34). -/
def Port.finished (q : Port) (view : LineView) (abort : List Bool) : Port :=
  Port.emptySlot { q with view := view, abort := abort }

/-- The changes of a port by which no frame joins or leaves it: words and state stay as they are. -/
inductive Port.Moves (q : Port) : Port → Prop
  | prompt (c : DecisionRecord → Bool) : q.Moves (Port.promptIf c q)
  | ask : q.Moves q.pauseAsk
  | dropRequest : q.Moves { q with pendingPause := false }
  | loadPause (f : Frame) (active : q.state = .active) (empty : q.slot = .empty) :
      q.Moves (Port.loadSlot { q with pendingPause := false } (.pause f))
  | load (e : QueueEntry) (r : Port) (active : q.state = .active) (empty : q.slot = .empty)
      (head : q.head = some (e, r)) : q.Moves (r.loadSlot (.pool e.buf))
  | answer (resp : Response) (r : Option DecisionRecord) : q.Moves { q with role := .answered resp, record := r }
  | acknowledge : q.Moves { q with role := .answered .ack, record := none, staging := none }
  | hold (t : Nat) (r : DecisionRecord) (awaits : q.Awaits) (holding : r.outcome = .holding) :
      q.Moves { q with role := .holding t false, record := some r }
  | silence (r : DecisionRecord) (awaits : q.Awaits) : q.Moves { q with record := some r }
  | report : q.Moves q.markReported
  | takeRetest : q.Moves q.takeRetest
  | stage (f : Frame) (check : Word) (receiving : q.receiving = true) : q.Moves (q.stage f check)
  | abandon (receiving : q.receiving = true) : q.Moves q.abandonFrame
  | endSlot (slot : q.rx = .rSlot) : q.Moves q.endSlot
  | paused (pause : PauseState) (active : q.state = .active) (slot : q.rx = .rSlot) :
      q.Moves { q.endSlot with pause := pause }
  | resume : q.Moves { q with pause := .running }
  | hear (bits : Nat) (follows : q.follows = true) : q.Moves (Port.hearRecessive bits q)
  | startBit (follows : q.follows = true) : q.Moves q.startBit
  | advance (point : TxPoint) : q.Moves (q.advance point)
  | loseArbitration (arbitrates : q.tx = .tArb) :
      q.Moves { q with tx := .tWaitIdle, rx := .rFrame, sending := none }
  | retry (view : LineView) (abort : List Bool) (ends : q.Ends view abort)
      (again : q.attempts + 1 ≤ q.words.retryLimit.toNat) : q.Moves (q.retried view abort)
  | tick : q.Moves q.tick
  | fault (cause : LineFault) (present : Bool) : q.Moves (q.setFault cause present)

/-! ## The rules -/

/-- The parts that hold no frame, no request and no port. -/
def tableParts : List Part :=
  [.counters, .restart, .monitor, .general, .group, .meters, .route, .window, .store, .loadFault, .startCause]

/-- The part with the executing request taken off, its entry changed by `turn` (R119). -/
def Gateway.stopped (g : Gateway) (turn : AgentEntry → AgentEntry) : Gateway :=
  { g with exec := none, agentQueue := updateFirst AgentEntry.isExecuting turn g.agentQueue }

/-- The entry as a reply that waits for its port (R126). -/
def AgentEntry.asWaitingReply (e : AgentEntry) : AgentEntry :=
  { e with state := .replyWait, offerDue := false }

/-- A family of predicates, numbered by how many buffers are between two places, that keeps to the rules by which
frames move: off the free list and back, into a queue, off its head, out of a slot, and through the agent's queue and
the capture queue. -/
structure BufferFlow (I : Nat → Gateway → Prop) : Prop where
  aside : ∀ {n : Nat} {g t : Gateway}, AllBut tableParts g t → I n g → I n t
  moves : ∀ {n : Nat} {g : Gateway} {p : PortId} {q : Port}, (g.port p).Moves q → I n g → I n (g.setPort p q)
  take : ∀ {n : Nat} {g : Gateway}, 1 ≤ g.free → I n g → I (n + 1) { g with free := g.free - 1 }
  give : ∀ {n : Nat} {g : Gateway} (k : Nat), I (n + k) g → I n { g with free := g.free + k }
  enqueue : ∀ {n : Nat} {g : Gateway} {p : PortId} (name : QueueName) (b : PoolBuffer), (g.port p).admits = true →
    I (n + 1) g → I n (g.modPort p (·.enqueue name b))
  head : ∀ {n : Nat} {g : Gateway} {p : PortId} {e : QueueEntry} {q : Port}, (g.port p).head = some (e, q) → I n g →
    I (n + 1) (g.setPort p q)
  finish : ∀ {n : Nat} {g : Gateway} {p : PortId} {view : LineView} {abort : List Bool}, (g.port p).Ends view abort →
    I n g → I (n + (g.port p).slot.poolFrames) (g.modPort p (·.finished view abort))
  captured : ∀ {n : Nat} {g : Gateway} (b : PoolBuffer), g.capture.length < captureCap → I (n + 1) g →
    I n { g with capture := g.capture ++ [b] }
  released : ∀ {n : Nat} {g : Gateway}, g.capture ≠ [] → I n g → I (n + 1) { g with capture := g.capture.tail }
  requested : ∀ {n : Nat} {g : Gateway} (e : AgentEntry), e.state = .waiting → g.agentQueue.length < agentCap →
    I (n + 1) g → I n { g with agentQueue := g.agentQueue ++ [e] }
  begins : ∀ {n : Nat} {g : Gateway} (e : AgentEntry) (ex : Execution), g.exec = none →
    g.agentQueue.find? AgentEntry.isWaiting = some e → I n g →
    I n { g with
      agentQueue := updateFirst AgentEntry.isWaiting (fun e => { e with state := .executing }) g.agentQueue
      exec := some ex }
  executes : ∀ {n : Nat} {g : Gateway} (ex : Execution), g.exec.isSome = true → I n g → I n { g with exec := some ex }
  offers : ∀ {n : Nat} {g : Gateway} (p : PortId), I n g →
    I n { g with agentQueue := g.agentQueue.map fun e => if e.waitsOn p then { e with offerDue := true } else e }
  replies : ∀ {n : Nat} {g : Gateway} {c : AgentEntry → Bool} {e : AgentEntry}, (∀ e, c e = true → e.state = .replyWait) →
    g.agentQueue.find? c = some e → I n g →
    I (n + 1) { g with agentQueue := removeFirst c g.agentQueue } ∧
      I n { g with agentQueue := updateFirst c AgentEntry.asWaitingReply g.agentQueue }
  stops : ∀ {n : Nat} {g : Gateway} (turn : AgentEntry → AgentEntry), (∀ e, (turn e).state = e.state) →
    g.exec.isSome = true → I n g →
    ((g.stopped turn).agentQueue.find? AgentEntry.isExecuting = none → I n (g.stopped turn)) ∧
    ∀ e, (g.stopped turn).agentQueue.find? AgentEntry.isExecuting = some e →
      I (n + 1) { g.stopped turn with
        agentQueue := removeFirst AgentEntry.isExecuting (g.stopped turn).agentQueue } ∧
      I n { g.stopped turn with
        agentQueue := updateFirst AgentEntry.isExecuting AgentEntry.asWaitingReply (g.stopped turn).agentQueue }

/-- The end of a frame once its port is empty: its buffer returns and the end is reported (R34, R49, R61). -/
def Gateway.afterEnd (g : Gateway) (p : PortId) (slot : TxSlot) (kind : EndKind) : Gateway :=
  match slot with
  | .pool b => (((g.giveBack 1).promptEgress p).evalPool).reportEnd b kind
  | .empty => g
  | .pause _ => g

theorem endTransmission_eq (g : Gateway) (p : PortId) (kind : EndKind) :
    g.endTransmission p kind = (g.modPort p Port.emptySlot).afterEnd p (g.port p).slot kind := rfl

theorem tableParts_count (g : Gateway) (i n : Nat) : AllBut tableParts g (g.bump i n) :=
  (bump_allBut g i n).mono (by decide)

theorem Port.admits_eq_true_iff (q : Port) : q.admits = true ↔ q.online = true ∧ q.egressCount < egressCap := by
  simp [Port.admits]

theorem Port.online_of_active {q : Port} (h : q.state = .active) : q.online = true := by
  simp [Port.online, h]

namespace BufferFlow

variable {I : Nat → Gateway → Prop} (flow : BufferFlow I) {n : Nat} {g : Gateway}

include flow

/-! ## Prompts, counts and the Event Monitor -/

theorem modMoves {f : Port → Port} {p : PortId} (moves : (g.port p).Moves (f (g.port p))) (holds : I n g) :
    I n (g.modPort p f) :=
  flow.moves moves holds

theorem count (p : PortId) (c : PortCounter) (holds : I n g) : I n (g.count p c) :=
  flow.aside (tableParts_count g _ _) holds

theorem countDevice (c : DeviceCounter) (holds : I n g) : I n (g.countDevice c) :=
  flow.aside (tableParts_count g _ _) holds

theorem monitor (m : Monitor) (holds : I n g) : I n { g with monitor := m } :=
  flow.aside (.of_same fun x => by cases x <;> simp [tableParts, Part.Same]) holds

theorem restart (r : RestartState) (holds : I n g) : I n { g with restart := r } :=
  flow.aside (.of_same fun x => by cases x <;> simp [tableParts, Part.Same]) holds

theorem promptBoth (c : DecisionRecord → Bool) (holds : I n g) :
    I n ((g.modPort .a (Port.promptIf c)).modPort .b (Port.promptIf c)) :=
  flow.modMoves (.prompt c) (flow.modMoves (.prompt c) holds)

theorem promptEgress (p : PortId) (holds : I n g) : I n (g.promptEgress p) :=
  flow.offers p (flow.modMoves (.prompt _) holds)

theorem giveBack (k : Nat) (holds : I (n + k) g) : I n (g.giveBack k) :=
  flow.promptBoth _ (flow.give k holds)

theorem poolEval (holds : I n g) : I n g.poolEval := by
  have level : I n (g.handLevel .poolLow g.poolLow) := flow.monitor _ holds
  unfold Gateway.poolEval
  dsimp only
  split
  · exact flow.modMoves .ask (flow.modMoves .ask level)
  · exact level

theorem noticeAsk (holds : I n g) : I n g.noticeAsk := by
  unfold Gateway.noticeAsk
  dsimp only
  split
  · exact holds
  · split
    · rename_i fits
      simp only [Gateway.noticeFits, Bool.and_eq_true, decide_eq_true_eq] at fits
      obtain ⟨⟨free, -⟩, admits⟩ := fits
      refine flow.poolEval (flow.enqueue _ _ ?_ (flow.take free holds))
      have ingress : g.noticeBuffer.ingress = g.general.noticePort := rfl
      rw [ingress]
      revert admits
      cases g.general.noticePort <;> exact id
    · exact flow.monitor _ holds

theorem alertEval (holds : I n g) : I n g.alertEval := by
  unfold Gateway.alertEval
  dsimp only
  split
  · exact flow.noticeAsk (flow.monitor _ holds)
  · exact flow.monitor _ holds

theorem latch (src : Source) (holds : I n g) : I n (g.latch src) :=
  flow.alertEval (flow.monitor _ holds)

theorem evalLevel (c : Level) (v : Bool) (holds : I n g) : I n (g.evalLevel c v) :=
  flow.alertEval (flow.monitor _ holds)

theorem evalPool (holds : I n g) : I n g.evalPool :=
  flow.alertEval (flow.poolEval holds)

/-! ## Ends of frames and selections -/

theorem reportEnd (b : PoolBuffer) (kind : EndKind) (holds : I n g) : I n (g.reportEnd b kind) := by
  rcases reportEnd_eq_or g b kind with same | due | failed
  · rwa [same]
  · rw [due]
    exact flow.restart _ holds
  · rw [failed]
    exact flow.latch _ holds

theorem afterEnd (p : PortId) (slot : TxSlot) (kind : EndKind) (holds : I (n + slot.poolFrames) g) :
    I n (g.afterEnd p slot kind) := by
  cases slot with
  | pool b => exact flow.reportEnd b kind (flow.evalPool (flow.promptEgress p (flow.giveBack 1 holds)))
  | empty => exact holds
  | pause f => exact holds

theorem discardAged {p : PortId} {e : QueueEntry} {q : Port} (head : (g.port p).head = some (e, q)) (holds : I n g) :
    I n (g.discardAged p e q) := by
  have taken : I (n + 1) (((g.setPort p q).count p .aged).latch (.aged p)) :=
    flow.latch _ (flow.count p _ (flow.head head holds))
  unfold Gateway.discardAged
  dsimp only
  exact flow.reportEnd _ _ (flow.evalPool (flow.promptEgress p (flow.giveBack 1 taken)))

end BufferFlow

/-! ## A selection goes on under the same state and slot (R58) -/

/-- Between two heads of one selection the port keeps its state and its empty slot. -/
theorem poolEval_state_slot (g : Gateway) (x : PortId) :
    (g.poolEval.port x).state = (g.port x).state ∧ (g.poolEval.port x).slot = (g.port x).slot := by
  rcases poolEval_port g x with same | asked
  · rw [same]
    exact ⟨rfl, rfl⟩
  · rw [asked]
    unfold Port.pauseAsk
    repeat' split
    all_goals exact ⟨rfl, by simp_all⟩

theorem alertEval_state_slot (g : Gateway) (x : PortId) :
    (g.alertEval.port x).state = (g.port x).state ∧ (g.alertEval.port x).slot = (g.port x).slot := by
  have pin : ∀ m : Monitor, ({ g with monitor := m } : Gateway).port x = g.port x := fun m => by cases x <;> rfl
  have asked : ∀ h : Gateway, (h.noticeAsk.port x).state = (h.port x).state ∧
      (h.noticeAsk.port x).slot = (h.port x).slot := by
    intro h
    unfold Gateway.noticeAsk
    dsimp only
    repeat' split
    · exact ⟨rfl, rfl⟩
    · obtain ⟨state, slot⟩ := poolEval_state_slot
        (({ h with free := h.free - 1 } : Gateway).modPort h.noticeBuffer.ingress (·.enqueue .urgent h.noticeBuffer)) x
      rw [state, slot]
      cases h.noticeBuffer.ingress <;> cases x <;> exact ⟨rfl, rfl⟩
    · cases x <;> exact ⟨rfl, rfl⟩
  unfold Gateway.alertEval
  dsimp only
  split
  · exact ⟨(asked _).1.trans (by rw [pin]), (asked _).2.trans (by rw [pin])⟩
  · rw [pin]
    exact ⟨rfl, rfl⟩

theorem head_state_slot {q r : Port} {e : QueueEntry} (h : q.head = some (e, r)) :
    r.state = q.state ∧ r.slot = q.slot := by
  unfold Port.head at h
  split at h <;> cases h
  all_goals exact ⟨rfl, rfl⟩

theorem reportEnd_state_slot (g : Gateway) (b : PoolBuffer) (kind : EndKind) (x : PortId) :
    ((g.reportEnd b kind).port x).state = (g.port x).state ∧ ((g.reportEnd b kind).port x).slot = (g.port x).slot := by
  rcases reportEnd_eq_or g b kind with same | due | failed
  · rw [same]
    exact ⟨rfl, rfl⟩
  · rw [due]
    cases x <;> exact ⟨rfl, rfl⟩
  · rw [failed]
    obtain ⟨state, slot⟩ := alertEval_state_slot (g.setFlag .noticeFailed) x
    exact ⟨state.trans (by cases x <;> rfl), slot.trans (by cases x <;> rfl)⟩

theorem promptIf_state_slot (c : DecisionRecord → Bool) (q : Port) :
    (Port.promptIf c q).state = q.state ∧ (Port.promptIf c q).slot = q.slot := by
  rw [promptIf_eq]
  exact ⟨rfl, rfl⟩

/-- A buffer returned and an egress count fallen leave states and slots, whatever they prompt (R49, R53). -/
theorem returned_state_slot (g : Gateway) (n : Nat) (p x : PortId) :
    ((((g.giveBack n).promptEgress p).evalPool).port x).state = (g.port x).state ∧
      ((((g.giveBack n).promptEgress p).evalPool).port x).slot = (g.port x).slot := by
  obtain ⟨state, slot⟩ := alertEval_state_slot ((g.giveBack n).promptEgress p).poolEval x
  obtain ⟨state', slot'⟩ := poolEval_state_slot ((g.giveBack n).promptEgress p) x
  have prompted : (((g.giveBack n).promptEgress p).port x).state = (g.port x).state ∧
      (((g.giveBack n).promptEgress p).port x).slot = (g.port x).slot := by
    cases p <;> cases x <;>
      simp [Gateway.promptEgress, Gateway.giveBack, Gateway.promptReturn, Gateway.modPort, promptIf_state_slot]
  exact ⟨(state.trans state').trans prompted.1, (slot.trans slot').trans prompted.2⟩

theorem discardAged_state_slot {g : Gateway} {p : PortId} {e : QueueEntry} {q : Port}
    (head : (g.port p).head = some (e, q)) :
    ((g.discardAged p e q).port p).state = (g.port p).state ∧
      ((g.discardAged p e q).port p).slot = (g.port p).slot := by
  let t := ((g.setPort p q).count p .aged).latch (.aged p)
  obtain ⟨reported, reported'⟩ := reportEnd_state_slot (((t.giveBack 1).promptEgress p).evalPool) e.buf .aged p
  obtain ⟨given, given'⟩ := returned_state_slot t 1 p p
  obtain ⟨latched, latched'⟩ := alertEval_state_slot (((g.setPort p q).count p .aged).setFlag (.aged p)) p
  obtain ⟨taken, taken'⟩ := head_state_slot head
  have port : (((g.setPort p q).count p .aged).setFlag (.aged p)).port p = q := by cases p <;> rfl
  rw [port] at latched latched'
  exact ⟨((reported.trans given).trans latched).trans taken, ((reported'.trans given').trans latched').trans taken'⟩

theorem takePause_state (g : Gateway) (p : PortId) : ((g.takePause p).port p).state = (g.port p).state :=
  ((takePause_sendsOnly g p) p).state

namespace BufferFlow

variable {I : Nat → Gateway → Prop} (flow : BufferFlow I) {n : Nat} {g : Gateway}

include flow

theorem selectFrame (fuel : Nat) {p : PortId} (active : (g.port p).state = .active) (empty : (g.port p).slot = .empty)
    (holds : I n g) : I n (Gateway.selectFrame fuel p g) := by
  induction fuel generalizing g with
  | zero => exact holds
  | succ fuel ih =>
    unfold Gateway.selectFrame
    split
    · exact holds
    · rename_i e q head
      split
      · obtain ⟨state, slot⟩ := discardAged_state_slot head
        exact ih (state.trans active) (slot.trans empty) (flow.discardAged head holds)
      · exact flow.moves (.load e q active empty head) holds

theorem takePause {p : PortId} (active : (g.port p).state = .active) (empty : (g.port p).slot = .empty)
    (holds : I n g) : I n (g.takePause p) := by
  unfold Gateway.takePause
  dsimp only
  repeat' split
  · exact flow.moves .dropRequest holds
  · exact flow.moves (.loadPause _ active empty) holds
  · exact holds

theorem selectEgress (p : PortId) (holds : I n g) : I n (g.selectEgress p) := by
  unfold Gateway.selectEgress
  dsimp only
  split
  · rename_i may
    have paused := flow.takePause may.1 may.2 holds
    split
    · rename_i queued
      exact flow.selectFrame _ ((takePause_state g p).trans may.1) queued.1 paused
    · exact paused
  · exact holds

theorem settle (holds : I n g) : I n g.settle :=
  flow.selectEgress .b (flow.selectEgress .a (flow.selectEgress .b (flow.selectEgress .a holds)))

/-! ## Attempts (R32 to R34) -/

/-- An attempt that ends for good, with its count and what follows for its buffer. -/
theorem endAttempt {p : PortId} {view : LineView} {abort : List Bool} (c : PortCounter) (kind : EndKind)
    (ends : (g.port p).Ends view abort) (holds : I n g) :
    I n (((g.modPort p fun q => { q with view := view, abort := abort }).count p c).endTransmission p kind) := by
  have emptied : (((g.modPort p fun q => { q with view := view, abort := abort }).count p c).modPort p Port.emptySlot) =
      (g.modPort p (·.finished view abort)).count p c := by
    cases p <;> rfl
  have slot : (((g.modPort p fun q => { q with view := view, abort := abort }).count p c).port p).slot =
      (g.port p).slot := by cases p <;> rfl
  rw [endTransmission_eq, emptied, slot]
  exact flow.afterEnd p _ kind (flow.count p c (flow.finish ends holds))

theorem failAttempt {p : PortId} {view : LineView} {abort : List Bool} (ends : (g.port p).Ends view abort)
    (holds : I n g) : I n ((g.modPort p fun q => { q with view := view, abort := abort }).failAttempt p) := by
  have once : ∀ k, ((g.modPort p fun q => { q with view := view, abort := abort }).modPort p fun q =>
      { q with attempts := k, tx := .tWaitIdle, sending := none, tolerance := none }) = g.modPort p fun q =>
      { q with
        view := view, abort := abort, attempts := k, tx := .tWaitIdle, sending := none, tolerance := none } := by
    intro k
    cases p <;> rfl
  have attempts : ((g.modPort p fun q => { q with view := view, abort := abort }).port p).attempts =
      (g.port p).attempts := by cases p <;> rfl
  unfold Gateway.failAttempt
  dsimp only
  rw [once, attempts]
  split
  · rename_i again
    rw [Gateway.port_modPort_self] at again
    exact flow.modMoves (f := fun q => q.retried view abort) (.retry view abort ends again) holds
  · refine flow.latch _ ?_
    have emptied : ∀ k, ((g.modPort p fun q =>
        { q with
          view := view, abort := abort, attempts := k, tx := .tWaitIdle, sending := none,
          tolerance := none }).count p .txFailed).modPort p Port.emptySlot =
        (g.modPort p (·.finished view abort)).count p .txFailed := by
      intro k
      cases p <;> rfl
    have slot : ∀ k, (((g.modPort p fun q =>
        { q with
          view := view, abort := abort, attempts := k, tx := .tWaitIdle, sending := none,
          tolerance := none }).count p .txFailed).port p).slot = (g.port p).slot := by
      intro k
      cases p <;> rfl
    rw [endTransmission_eq, emptied, slot]
    exact flow.afterEnd p _ _ (flow.count p _ (flow.finish ends holds))

/-- An outcome taken at the end delimiter (R32). -/
theorem takeOutcome {p : PortId} (outcome : TxOutcome) (online : (g.port p).tx.onLine = true) (holds : I n g) :
    I n ((g.modPort p fun q => { q with view := .gap 0 }).takeOutcome p outcome) := by
  have ends : (g.port p).Ends (.gap 0) (g.port p).abort := ⟨online, .inl ⟨rfl, rfl⟩⟩
  have same : (g.modPort p fun q => { q with view := .gap 0 }) =
      g.modPort p fun q => { q with view := .gap 0, abort := (g.port p).abort } := by cases p <;> rfl
  rw [same]
  cases outcome
  · exact flow.endAttempt _ _ ends holds
  · exact flow.endAttempt _ _ ends holds
  · exact flow.failAttempt ends holds

/-! ## The agent (R119, R126) -/

theorem beginExecution (holds : I n g) : I n g.beginExecution := by
  unfold Gateway.beginExecution
  split
  · rename_i free
    simp only [Gateway.agentFree, Bool.and_eq_true, Option.isNone_iff_eq_none] at free
    split
    · exact holds
    · rename_i e found
      exact flow.countDevice _ (flow.begins e _ free.1 found holds)
  · exact holds

theorem promptAgent (holds : I n g) : I n g.promptAgent :=
  flow.promptBoth _ holds

theorem discardReply (b : PoolBuffer) (holds : I (n + 1) g) : I n (g.discardReply b) :=
  flow.reportEnd b _ (flow.evalPool (flow.promptAgent (flow.giveBack 1 holds)))

/-- A reply offered goes to its port's queue, waits, or is discarded (R126). -/
theorem offerReply {c : AgentEntry → Bool} (none : g.agentQueue.find? c = none → I n g)
    (some : ∀ e, g.agentQueue.find? c = some e →
      I (n + 1) { g with agentQueue := removeFirst c g.agentQueue } ∧
        I n { g with agentQueue := updateFirst c AgentEntry.asWaitingReply g.agentQueue }) :
    I n (g.offerReply c) := by
  unfold Gateway.offerReply
  dsimp only
  split
  · exact none ‹_›
  · rename_i e found
    obtain ⟨leaves, waits⟩ := some e found
    split
    · split
      · rename_i admits
        refine flow.promptAgent (flow.enqueue _ _ ?_ leaves)
        revert admits
        cases e.buf.ingress <;> exact id
      · exact waits
    · exact flow.discardReply _ leaves

/-- A reply that waits is offered again (R126). -/
theorem offerWaiting {c : AgentEntry → Bool} (waiting : ∀ e, c e = true → e.state = .replyWait) (holds : I n g) :
    I n (g.offerReply c) :=
  flow.offerReply (fun _ => holds) fun _ found => flow.replies waiting found holds

theorem endExecution (ex : Execution) (status : RequestStatus) (executing : g.exec.isSome = true) (holds : I n g) :
    I n (g.endExecution ex status) := by
  obtain ⟨none, some⟩ :=
    flow.stops (fun e => { e with buf := g.replyBuffer e (ex.payload status) (status == .restarting) }) (fun _ => rfl)
      executing holds
  exact flow.beginExecution (flow.offerReply none some)

theorem finishOp (ex : Execution) (status : OpStatus) (data : List Byte) (words : Nat)
    (executing : g.exec.isSome = true) (holds : I n g) : I n (g.finishOp ex status data words) := by
  unfold Gateway.finishOp
  dsimp only
  split
  · exact flow.endExecution _ _ executing holds
  · exact flow.executes _ executing holds

theorem beginRestart (ex : Execution) (executing : g.exec.isSome = true) (holds : I n g) : I n (g.beginRestart ex) :=
  flow.endExecution _ _ executing (flow.restart _ holds)

theorem requestDecode (holds : I n g) : I n g.requestDecode := by
  unfold Gateway.requestDecode
  split
  · rename_i ex e executing _
    have some : g.exec.isSome = true := by simp [executing]
    split
    · exact holds
    · split
      · have latched : ((g.countDevice .agentMalformed).latch .requestMalformed).exec = g.exec :=
          latch_allBut (g.countDevice .agentMalformed) .requestMalformed .exec (by decide)
        exact flow.settle (flow.endExecution _ _ (by rw [latched]; exact some)
          (flow.latch _ (flow.countDevice _ holds)))
      · exact flow.executes _ some holds
  · exact holds

/-! ## Decisions that make no claim (R26, R27, R77, R107) -/

theorem answerNak (p : PortId) (r : DecisionRecord) (resp : Response) (holds : I n g) : I n (g.answerNak p r resp) :=
  flow.count p _ (flow.modMoves (.answer _ _) holds)

theorem answerAck (p : PortId) (holds : I n g) : I n (g.answerAck p) :=
  flow.count p _ (flow.modMoves .acknowledge holds)

theorem holdOrBusy {p : PortId} (r : DecisionRecord) (awaits : (g.port p).Awaits) (holds : I n g) :
    I n (g.holdOrBusy p r) := by
  unfold Gateway.holdOrBusy
  split
  · exact flow.answerNak p r _ holds
  · exact flow.count p _ (flow.modMoves (.hold _ _ awaits rfl) holds)

theorem silent {p : PortId} (r : DecisionRecord) (awaits : (g.port p).Awaits) (holds : I n g) : I n (g.silent p r) :=
  flow.modMoves (.silence _ awaits) holds

theorem reportExceed (p : PortId) (r : DecisionRecord) (k : Nat) (holds : I n g) : I n (g.reportExceed p r k) := by
  unfold Gateway.reportExceed
  split
  · exact holds
  · exact flow.latch _ (flow.aside (tableParts_count _ _ _) (flow.modMoves .report holds))

/-! ## Claims (R69, R78, R85) -/

theorem claimForward {p : PortId} (r : DecisionRecord) (f : Frame) (queue : QueueName) (capacity : g.capacity p = true)
    (holds : I n g) : I n (g.claimForward p r f queue) := by
  simp only [Gateway.capacity, Bool.and_eq_true, decide_eq_true_eq] at capacity
  obtain ⟨⟨active, free⟩, room⟩ := capacity
  have admits : (g.port p.other).admits = true :=
    (Port.admits_eq_true_iff _).mpr ⟨Port.online_of_active active, room⟩
  refine flow.evalPool (flow.answerAck p (flow.enqueue _ _ ?_ (flow.take (by omega) holds)))
  revert admits
  cases p <;> exact id

theorem claimManagement {t : Gateway} {p : PortId} {r : DecisionRecord} {f : Frame} (holds : I n g)
    (h : g.claimManagement p r f = some t) : I n t := by
  unfold Gateway.claimManagement at h
  split at h
  · rename_i room
    cases h
    exact flow.beginExecution (flow.evalPool (flow.answerAck p (flow.requested (g := { g with free := g.free - 1 }) _ rfl
      room.1 (flow.take room.2 holds))))
  · cases h

theorem claimDivert {t : Gateway} {p : PortId} {r : DecisionRecord} {f : Frame} (holds : I n g)
    (h : g.claimDivert p r f = some t) : I n t := by
  unfold Gateway.claimDivert at h
  split at h
  · rename_i room
    cases h
    exact flow.evalLevel _ _ (flow.evalPool (flow.answerAck p (flow.captured (g := { g with free := g.free - 1 }) _ room.2
      (flow.take (by omega) holds))))
  · cases h

theorem debit (k m : Nat) (holds : I n g) : I n (g.debit k m) :=
  flow.aside ((debit_allBut g k m).mono (by decide)) holds

end BufferFlow

theorem forwardVerdict_capacity {g : Gateway} {p : PortId} {r : DecisionRecord} {treatment : Option (Bool × MeterMode)}
    (h : g.forwardVerdict p r treatment ≠ .noCapacity) : g.capacity p = true := by
  by_contra none
  exact h (by simp [Gateway.forwardVerdict, none])

end Sys2Proof.Machine
end

section
/-! SUPPORT. The rules by which frames move, through every command: what a family of predicates must keep besides them,
and the induction over the commands. -/

open Sys2Proof

namespace Sys2Proof.Machine

/-! ## What the commands change besides -/

/-- What a port taken OFFLINE leaves to be done: its buffers return, their ends are reported, and the replies that wait
for it are discarded (R21, R63, R126). -/
def Gateway.afterFlush (g : Gateway) (p : PortId) (bs : List PoolBuffer) : Gateway :=
  let g := g.bump (portCounterIndex p .flushed) bs.length
  let g := if bs.isEmpty then g else (g.giveBack bs.length).promptEgress p
  let g := bs.foldl (fun g b => g.reportEnd b .flushed) g.evalPool
  (g.offerReply (AgentEntry.waitsOn p)).offerReply (AgentEntry.waitsOn p)

theorem goOffline_eq (g : Gateway) (p : PortId) :
    g.goOffline p = (g.modPort p Port.flushed).afterFlush p (g.port p).buffers := rfl

/-- Rules for whole commands, at which no buffer is between two places: the changes of a link level, the WRITE of PORT
words, and the steps of resets and the Boot Load. -/
structure CommandFlow (I : Nat → Gateway → Prop) : Prop extends BufferFlow I where
  raiseLink : ∀ {g : Gateway} {p : PortId}, (g.port p).follows = true → I 0 g → I 0 (g.modPort p Port.raiseLink)
  dropLink : ∀ {g : Gateway} {p : PortId}, (g.port p).follows = true → I 0 g → I 0 (g.modPort p Port.dropLink)
  writePort : ∀ {g : Gateway} {targets : List (Nat × Word)},
    (∀ iw ∈ targets, g.protectedTarget .port iw.1 iw.2 = false) →
    (∀ iw ∈ targets, targetInRange .port iw.1 iw.2 = true) → I 0 g → I 0 (g.writePort targets)
  reset : ∀ {g : Gateway} (cause : StartCause), I 0 g → I 0 (g.resetBy cause)
  load : ∀ {g : Gateway} (n : Nat), g.phase ≠ .running → I 0 g → I 0 { g with phase := .loading n }
  loadPort : ∀ {g : Gateway} (page : Page), g.phase ≠ .running → I 0 g → I 0 (g.loadPort page)
  started : ∀ {g : Gateway}, g.phase ≠ .running → I 0 g → I 0 g.started

/-- What every rule of two predicates gives, a rule of both gives. -/
theorem OpOutcome.Leaves.and {P Q : Gateway → Prop} {o : OpOutcome} (p : o.Leaves P) (q : o.Leaves Q) :
    o.Leaves fun g => P g ∧ Q g := by
  cases o
  · trivial
  · exact ⟨p, q⟩
  · exact ⟨p, q⟩

/-- The body of an operation leaves the execution to what follows it (R120). -/
theorem opBody_exec (g : Gateway) (k : Nat) (op : Op) (ex : Execution) :
    (g.opBody k op ex).Leaves fun t => t.exec = g.exec :=
  (opBody_leaves g k op ex).mono fun t frame => frame .exec (by cases op <;> simp [Op.changes, endParts])

theorem pauseFrame_some {q : Port} {k : Nat} (h : q.pauseFrame = some k) : q.state = .active ∧ q.rx = .rSlot := by
  unfold Port.pauseFrame at h
  split at h
  · split at h
    · rename_i good
      exact ⟨good.1, good.2.1⟩
    · cases h
  · cases h

namespace BufferFlow

variable {I : Nat → Gateway → Prop} (flow : BufferFlow I) {n : Nat} {g : Gateway}

include flow

/-! ## Decisions -/

theorem carryForward {p : PortId} (r : DecisionRecord) (f : Frame) {wait : Gateway → Gateway} (waits : I n (wait g))
    {verdict : ForwardVerdict} (capacity : verdict ≠ .noCapacity → g.capacity p = true) (holds : I n g) :
    I n (g.carryForward p r f wait verdict) := by
  cases verdict with
  | noCapacity => exact waits
  | pass => exact flow.claimForward r f _ (capacity nofun) holds
  | conform k =>
    have same : (g.debit k r.byteCount).capacity p = g.capacity p := by cases p <;> rfl
    exact flow.claimForward r f _ (same.trans (capacity nofun)) (flow.debit k _ holds)
  | exceed k mode =>
    cases mode with
    | drop => exact flow.reportExceed p r k (flow.answerNak p r _ holds)
    | hold => exact flow.reportExceed p r k waits
    | pause => exact flow.reportExceed p r k (flow.modMoves .ask (flow.answerNak p r _ holds))
    | mark => exact flow.reportExceed p r k (flow.claimForward r f _ (capacity nofun) holds)

theorem decideForward {p : PortId} (r : DecisionRecord) (f : Frame) (awaits : (g.port p).Awaits) (holds : I n g) :
    I n (g.decideForward p r f) := by
  unfold Gateway.decideForward
  repeat' split
  · exact flow.latch _ (flow.countDevice _ (flow.answerNak p r _ holds))
  · exact flow.silent r awaits holds
  · exact flow.answerNak p r _ holds
  · exact flow.carryForward r f (wait := (·.holdOrBusy p r)) (flow.holdOrBusy r awaits holds) forwardVerdict_capacity holds

theorem decideAction {p : PortId} (r : DecisionRecord) (f : Frame) (awaits : (g.port p).Awaits) (holds : I n g) :
    I n (g.decideAction p r f) := by
  unfold Gateway.decideAction
  split
  · exact flow.silent r awaits holds
  · exact flow.answerNak p r _ holds
  · exact getD_claim (fun _ => flow.claimDivert holds) (flow.holdOrBusy r awaits holds)
  · exact flow.decideForward r f awaits holds
  · exact flow.silent r awaits holds

theorem classify {p : PortId} (f : Frame) (awaits : (g.port p).Awaits) (holds : I n g) : I n (g.classify p f) := by
  unfold Gateway.classify
  dsimp only
  split
  · exact flow.silent _ awaits holds
  · split
    · exact getD_claim (fun _ => flow.claimManagement holds) (flow.holdOrBusy _ awaits holds)
    · rw [decideRoute_eq]
      refine flow.decideAction _ f ?_ (flow.aside ((routeHit_allBut g p f).mono (by decide)) holds)
      cases p <;> exact awaits

theorem complete {p : PortId} (f : Frame) (check : Word) (receiving : (g.port p).receiving = true) (holds : I n g) :
    I n (g.complete p f check) := by
  have staged : I n (g.modPort p (·.stage f check)) := flow.modMoves (.stage f check receiving) holds
  unfold Gateway.complete
  dsimp only
  split
  · exact flow.latch _ (flow.count p _ staged)
  · exact flow.count p _ staged
  · split
    · rename_i active
      refine flow.classify f ?_ (flow.count p _ staged)
      have port : ((g.modPort p (·.stage f check)).count p .rxGood).port p = (g.port p).stage f check := by
        cases p <;> rfl
      rw [port] at active ⊢
      exact ⟨active, rfl, rfl, rfl, rfl⟩
    · exact flow.count p _ staged

theorem retestHold (p : PortId) (r : DecisionRecord) (f : Frame) (holds : I n g) : I n (g.retestHold p r f) := by
  unfold Gateway.retestHold
  repeat' split
  · exact getD_claim (fun _ => flow.claimManagement holds) holds
  · exact getD_claim (fun _ => flow.claimDivert holds) holds
  · exact flow.carryForward r f (wait := id) holds forwardVerdict_capacity holds

/-! ## The line -/

theorem abandonFrame (p : PortId) (holds : I n g) : I n (g.abandonFrame p) := by
  unfold Gateway.abandonFrame
  split
  · exact flow.count p _ (flow.modMoves (.abandon ‹_›) holds)
  · exact holds

theorem endPause {p : PortId} {k : Nat} (frame : (g.port p).pauseFrame = some k) (holds : I n g) :
    I n (g.endPause p k) := by
  obtain ⟨active, slot⟩ := pauseFrame_some frame
  exact flow.settle (flow.latch _ (flow.count p _ (flow.modMoves (.paused _ active slot) holds)))

/-! ## Tables, ports and the store -/

theorem promptMeter (k : Nat) (holds : I n g) : I n (g.promptMeter k) :=
  flow.promptBoth _ holds

theorem meters (ms : List Meter) (holds : I n g) : I n { g with meters := ms } :=
  flow.aside ((meters_allBut g ms).mono (by decide)) holds

theorem store (s : Store) (holds : I n g) : I n { g with store := s } :=
  flow.aside ((store_allBut g s).mono (by decide)) holds

theorem general (w : General) (holds : I n g) : I n { g with general := w } :=
  flow.aside (.of_same fun x => by cases x <;> simp [tableParts, Part.Same]) holds

theorem refill (k : Nat) (holds : I n g) : I n (g.refill k) := by
  unfold Gateway.refill
  dsimp only
  split
  · exact flow.promptMeter k (flow.meters _ holds)
  · exact flow.meters _ holds

theorem tick (holds : I n g) : I n g.tick := by
  unfold Gateway.tick
  split
  · have aged : I n ((g.modPort .a Port.tick).modPort .b Port.tick) :=
      flow.modMoves .tick (flow.modMoves .tick holds)
    exact flow.store _ (foldl_keeps (fun k => flow.refill k) (List.range 16) aged)
  · exact holds

theorem dropCapture (full : g.capture ≠ []) (holds : I n g) : I n g.dropCapture :=
  flow.promptBoth _ (flow.evalLevel _ _ (flow.countDevice _ (flow.evalPool (flow.giveBack 1
    (flow.released full holds)))))

theorem writeMeters (targets : List (Nat × Word)) (holds : I n g) : I n (g.writeMeters targets) := by
  refine foldl_keeps (fun k before => ?_) (List.range 16) (flow.meters (targets.foldl writeMeterWord g.meters) holds)
  unfold Gateway.meterWritten
  split
  · exact flow.promptMeter k (flow.meters _ before)
  · exact before

/-- The rest of what a port taken OFFLINE does. -/
theorem afterFlush (p : PortId) (bs : List PoolBuffer) (holds : I (n + bs.length) g) : I n (g.afterFlush p bs) := by
  have waiting : ∀ e, AgentEntry.waitsOn p e = true → e.state = .replyWait := by
    intro e waits
    simp only [AgentEntry.waitsOn, Bool.and_eq_true, decide_eq_true_eq] at waits
    exact waits.1
  have counted : I (n + bs.length) (g.bump (portCounterIndex p .flushed) bs.length) :=
    flow.aside (tableParts_count g _ _) holds
  unfold Gateway.afterFlush
  dsimp only
  refine flow.offerWaiting waiting (flow.offerWaiting waiting (foldl_keeps (fun b => flow.reportEnd b .flushed) bs
    (flow.evalPool ?_)))
  split
  · rename_i none
    rw [List.isEmpty_iff] at none
    rwa [none] at counted ⊢
  · exact flow.promptEgress p (flow.giveBack _ counted)

theorem goOnline {p : PortId}
    (holds : I n (g.modPort p fun q => { q with state := if q.linkUp then .active else .linkDown })) :
    I n (g.goOnline p) := by
  unfold Gateway.goOnline
  dsimp only
  split
  · exact flow.modMoves (.prompt _) holds
  · exact holds

end BufferFlow

namespace CommandFlow

variable {I : Nat → Gateway → Prop} (flow : CommandFlow I) {g : Gateway}

include flow

theorem writeTable (t : Table) (targets : List (Nat × Word))
    (open_ : ∀ iw ∈ targets, g.protectedTarget t iw.1 iw.2 = false)
    (inRange : ∀ iw ∈ targets, targetInRange t iw.1 iw.2 = true) (holds : I 0 g) : I 0 (g.writeTable t targets) := by
  have rules := flow.toBufferFlow
  cases t
  case port => exact flow.writePort open_ inRange holds
  case general => exact rules.evalPool (rules.general _ holds)
  case meter => exact rules.writeMeters targets holds
  all_goals
    refine rules.aside (.of_same fun x => ?_) holds
    cases x <;> simp [tableParts, Part.Same, Gateway.writeTable]

theorem opBody (k : Nat) (op : Op) (ex : Execution) (holds : I 0 g) : (g.opBody k op ex).Leaves (I 0) := by
  have rules := flow.toBufferFlow
  have store : ∀ s, I 0 { g with store := s } := fun s => rules.store s holds
  have moved : ∀ {h : Gateway} m, I 0 h → I 0 (h.moveWindow m) := fun m before =>
    rules.aside ((moveWindow_allBut _ m).mono (by decide)) before
  have started : ∀ kind state, I 0 (g.startStore kind state) := fun kind state => rules.evalLevel _ _ (store _)
  have bins : ∀ port bins value, (g.writeBins port bins value).Leaves (I 0) := by
    intro port bins value
    unfold Gateway.writeBins
    split
    · trivial
    · exact rules.aside (.of_same fun x => by cases x <;> simp [tableParts, Part.Same]) holds
  cases op
  case ident => exact readWords_leaves (fun _ => holds) (fun _ => holds) ex _ _ _ _
  case eventsRead => exact readWords_leaves (fun _ => holds) (fun _ => holds) ex _ _ _ _
  case select table index =>
    simp only [Gateway.opBody, Gateway.selectWindow]
    repeat' split
    · trivial
    · exact rules.aside (.of_same fun x => by cases x <;> simp [tableParts, Part.Same]) holds
    · trivial
  case read n =>
    simp only [Gateway.opBody, Gateway.readWindow]
    split
    · exact readWords_leaves (fun _ => holds) (fun _ => moved n holds) ex _ _ _ _
    · trivial
  case write ws =>
    refine writeWindow_leaves fun t outcome => ?_
    obtain ⟨-, -, -, -, -, open_, inRange, -, rfl⟩ := writeWindow_done outcome
    exact moved _ (flow.writeTable _ _ open_ inRange holds)
  case groupSet port list => exact bins port list true
  case groupClear port list => exact bins port list false
  case counters block =>
    simp only [Gateway.opBody, Gateway.readBlock]
    split
    · exact readWords_leaves (fun _ => holds) (fun _ => holds) ex _ _ _ _
    · trivial
  case countersClear block =>
    simp only [Gateway.opBody, Gateway.clearCounters]
    split
    · exact rules.aside (.of_same fun x => by cases x <;> simp [tableParts, Part.Same]) holds
    · trivial
  case eventsClear w0 w1 => exact rules.alertEval (rules.monitor _ holds)
  case eventsMask w0 w1 => exact rules.alertEval (rules.general _ holds)
  case captureTake =>
    simp only [Gateway.opBody, Gateway.takeCapture]
    split
    · trivial
    · rename_i b rest full
      split
      · exact rules.dropCapture (by simp [full]) holds
      · trivial
  case storeSelect page word =>
    simp only [Gateway.opBody, Gateway.selectStore]
    repeat' split
    any_goals trivial
    exact store _
  case storeRead n =>
    simp only [Gateway.opBody, Gateway.readStore]
    repeat' split
    any_goals trivial
    all_goals exact readWords_leaves (fun _ => store _) (fun _ => store _) ex _ _ _ _
  case storeFill ws =>
    simp only [Gateway.opBody, Gateway.fillStore]
    repeat' split
    any_goals trivial
    all_goals exact store _
  case storeStage =>
    simp only [Gateway.opBody, Gateway.stageStore]
    repeat' split
    any_goals trivial
    exact store _
  case storeErase =>
    simp only [Gateway.opBody, Gateway.startErase]
    repeat' split
    any_goals trivial
    exact started _ _
  case storeWrite =>
    simp only [Gateway.opBody, Gateway.startWrite]
    repeat' split
    any_goals trivial
    exact started _ _
  case storeStatus =>
    simp only [Gateway.opBody, Gateway.statusStore]
    split
    · exact holds
    · trivial
  case restart => trivial

theorem operation {t : Gateway} (h : OperationStep g t) (holds : I 0 g) : I 0 t := by
  have rules := flow.toBufferFlow
  cases h with
  | idle => exact holds
  | restart ex runs access idle => exact rules.settle (rules.beginRestart ex (by simp [runs.1]) holds)
  | body op k ex runs =>
    have executing : g.exec.isSome = true := by simp [runs.1]
    refine runOp_keeps (Q := fun t => I 0 t ∧ t.exec = g.exec) holds
      (fun ex status _ => rules.settle (rules.endExecution _ _ executing holds))
      (fun ex _ => (flow.opBody k op ex holds).and (opBody_exec g k op ex))
      (fun ex h taken _ left => rules.executes _ (by rw [left.2]; exact executing) left.1)
      fun ex h status data words _ left =>
        rules.settle (rules.finishOp ex status data words (by rw [left.2]; exact executing) left.1)

theorem beginLoad (out : g.phase ≠ .running) (holds : I 0 g) : I 0 g.beginLoad :=
  flow.toBufferFlow.store _ (flow.load 1 out holds)

theorem loadPage {m : Nat} (n : Nat) (loading : g.phase = .loading m) (holds : I 0 g) : I 0 (g.loadPage n) := by
  have rules := flow.toBufferFlow
  have begun : I 0 (g.pageBegun n) := by
    refine rules.aside (.of_same (g := { g with phase := .loading (n + 1) }) fun x => ?_)
      (flow.load (n + 1) (by simp [loading]) holds)
    cases x <;> simp [tableParts, Part.Same, Gateway.pageBegun]
  rw [loadPage_eq]
  repeat' split
  · exact flow.loadPort _ (by simp [Gateway.pageBegun]) begun
  · exact rules.evalPool (rules.general _ begun)
  · exact rules.aside ((loadGroup_allBut _ _).mono (by decide)) begun
  · exact rules.aside ((loadMeters_allBut _ _ _).mono (by decide)) begun
  · exact rules.aside ((loadRoute_allBut _ _ _).mono (by decide)) begun

/-- What keeps to the rules, every command keeps. -/
theorem effect_keeps (c : Instr) (holds : I 0 g) : I 0 (effect c g) := by
  have rules := flow.toBufferFlow
  cases operation : runsOperation c
  case true => exact flow.operation (effect_operationStep c g operation) holds
  case false =>
    cases c <;> first | (cases operation; done) | skip
    case powerOnReset => exact flow.reset _ holds
    case lineReset => exact flow.reset _ holds
    case requestReset =>
      simp only [effect, Gateway.requestReset]
      split
      · exact flow.beginLoad (show Phase.held ≠ .running by decide) (flow.reset _ holds)
      · exact holds
    case resetRelease =>
      simp only [effect, Gateway.resetRelease]
      split
      · rename_i held
        exact flow.beginLoad (by simp [held]) holds
      · exact holds
    case bootPageLoad =>
      simp only [effect, Gateway.bootPageLoad]
      split
      · rename_i loading
        split
        · exact flow.loadPage _ loading holds
        · exact holds
      · exact holds
      · exact holds
    case bootLoadEnd =>
      simp only [effect, Gateway.bootLoadEnd]
      split
      · rename_i loading
        split
        · exact endLoad_keeps (rules.latch ·) (flow.started (by simp [loading]) holds)
        · exact holds
      · exact holds
      · exact holds
    case tick => exact rules.tick holds
    case lineFaultChange p cause present => exact rules.modMoves (p := p) (f := (·.setFault cause present)) (.fault cause present) holds
    case transmitStart p point => exact rules.modMoves (p := p) (f := (·.advance point)) (.advance point) holds
    case busIdle p bits =>
      simp only [effect, Gateway.busIdle]
      split
      · exact rules.modMoves (.hear bits ‹_›) holds
      · exact holds
    case startBit p =>
      simp only [effect, Gateway.startBit]
      split
      · exact rules.modMoves (.startBit ‹_›) holds
      · exact holds
    case linkUp p =>
      simp only [effect, Gateway.linkUp]
      split
      · rename_i due
        have raised := flow.raiseLink due.1 holds
        refine rules.settle (rules.evalLevel _ _ ?_)
        split
        · exact rules.modMoves (.prompt _) raised
        · exact raised
      · exact holds
    case linkDown p =>
      simp only [effect, Gateway.linkDown]
      split
      · rename_i due
        exact rules.settle (rules.evalLevel _ _ (flow.dropLink due.1 holds))
      · exact holds
    case receiveCompletion p bytes check =>
      simp only [effect, Gateway.receiveCompletion]
      split
      · split
        · exact rules.settle (rules.complete _ check ‹_› holds)
        · exact holds
      · exact holds
    case symbolError p => exact rules.abandonFrame p holds
    case lengthOutOfRange p length =>
      simp only [effect, Gateway.lengthOutOfRange]
      split
      · exact rules.abandonFrame p holds
      · exact holds
    case pauseRx p =>
      simp only [effect, Gateway.pauseRx]
      split
      · exact rules.endPause ‹_› holds
      · exact holds
    case endDelimiter p =>
      simp only [effect, Gateway.endDelimiter]
      split
      · rename_i ends
        simp only [Port.slotEnds, Bool.and_eq_true, decide_eq_true_eq] at ends
        split
        · exact rules.endPause ‹_› holds
        · exact rules.modMoves (.endSlot ends.1.2) holds
      · exact holds
    case holdRetest p =>
      simp only [effect, Gateway.holdRetest]
      split
      · exact rules.settle (rules.retestHold p _ _ (rules.modMoves .takeRetest holds))
      · exact holds
    case holdExpiry p =>
      simp only [effect, Gateway.holdExpiry]
      split
      · exact rules.settle (rules.latch _ (rules.answerNak p _ _ holds))
      · exact holds
    case pauseExpiry p =>
      simp only [effect, Gateway.pauseExpiry]
      split
      · exact rules.settle (rules.modMoves .resume holds)
      · exact holds
    case arbLost p =>
      simp only [effect, Gateway.arbLost]
      split
      · exact rules.count p _ (rules.modMoves (.loseArbitration ‹_›) holds)
      · exact holds
    case collision p =>
      simp only [effect, Gateway.collision]
      split
      · rename_i sends
        have online : (g.port p).tx.onLine = true := by
          rcases sends with tx | tx <;> rw [tx] <;> rfl
        exact rules.settle (rules.failAttempt ⟨online, .inr ⟨rfl, .inr ⟨rfl, sends⟩⟩⟩ holds)
      · exact holds
    case transmitOutcome p slot =>
      simp only [effect, Gateway.transmitOutcome]
      split
      · rename_i ends
        exact rules.settle (rules.takeOutcome _ ends.1 holds)
      · exact holds
    case holdBeyondTolerance p =>
      simp only [effect, Gateway.holdBeyondTolerance]
      split
      · rename_i online
        have same : (g.modPort p fun q => { q with view := .resync 0 }) =
            g.modPort p fun q => { q with view := .resync 0, abort := (g.port p).abort } := by cases p <;> rfl
        rw [same]
        exact rules.settle (rules.failAttempt ⟨online, .inr ⟨rfl, .inl rfl⟩⟩ holds)
      · exact holds
    case requestDecode => exact rules.requestDecode holds
    case replyReoffer p =>
      simp only [effect, Gateway.replyReoffer]
      split
      · refine rules.settle (rules.offerWaiting (fun e offers => ?_) holds)
        simp only [AgentEntry.offerOn, AgentEntry.waitsOn, Bool.and_eq_true, decide_eq_true_eq] at offers
        exact offers.1.1
      · exact holds
    case storeEraseComplete =>
      simp only [effect, Gateway.eraseComplete]
      split
      · exact rules.settle (rules.evalLevel _ _ (rules.latch _ (rules.store _ holds)))
      · exact holds
    case storeWriteComplete =>
      simp only [effect, Gateway.writeComplete]
      split
      · exact rules.settle (rules.evalLevel _ _ (rules.latch _ (rules.store _ holds)))
      · exact holds

end CommandFlow

end Sys2Proof.Machine
end

section
/-! SUPPORT. Every buffer in one place, and one request executing (R46, R53, R118, R119, R135): the pool and the agent
keep to the rules by which frames move. -/

open Sys2Proof

namespace Sys2Proof.Machine

/-! ## The WRITE of PORT words by its parts -/

/-- A WRITE of PORT words keeps what its own steps keep: the words, a new rate, the flush of a port and its return. -/
theorem writePort_keeps {I : Nat → Gateway → Prop} (flow : BufferFlow I)
    (words : ∀ {g : Gateway} (p : PortId) (f : PortWords → PortWords), I 0 g →
      I 0 (g.modPort p fun q => { q with words := f q.words }))
    (rate : ∀ {g : Gateway} (p : PortId), I 0 g → I 0 (g.modPort p Port.changeRate))
    (flush : ∀ {g : Gateway} (p : PortId), I 0 g → I (0 + (g.port p).buffers.length) (g.modPort p Port.flushed))
    (online : ∀ {g : Gateway} (p : PortId), I 0 g →
      I 0 (g.modPort p fun q => { q with state := if q.linkUp then .active else .linkDown }))
    {g : Gateway} (targets : List (Nat × Word)) (holds : I 0 g) : I 0 (g.writePort targets) := by
  have written : ∀ (p : PortId) (old : Port) {h : Gateway}, I 0 h → I 0 (h.portWritten p old) := by
    intro p old h before
    have rated : I 0 (if rateCode (h.port p).words.control ≠ rateCode old.words.control
        then h.modPort p Port.changeRate else h) := by
      split
      · exact rate p before
      · exact before
    unfold Gateway.portWritten
    dsimp only
    generalize (if rateCode (h.port p).words.control ≠ rateCode old.words.control
      then h.modPort p Port.changeRate else h) = t at rated ⊢
    repeat' split
    · exact flow.goOnline (online p rated)
    · rw [goOffline_eq]
      exact flow.afterFlush p _ (flush p rated)
    · exact rated
  refine written .b _ (written .a _ (foldl_keeps (f := Gateway.writePortWord) (fun iw before => ?_) targets holds))
  exact words (portOfIndex iw.1) (·.set (iw.1 % 8) iw.2) before

/-! ## The pool (R46) -/

/-- Every buffer is on the free list, in one place, or among `n` between two places; no place is over its size. -/
def PoolHeld (n : Nat) (g : Gateway) : Prop :=
  g.free + g.heldBuffers + n = poolSize ∧ (∀ p, (g.port p).egressCount ≤ egressCap) ∧
    g.agentQueue.length ≤ agentCap ∧ g.capture.length ≤ captureCap

theorem poolHeld_zero_iff (g : Gateway) : PoolHeld 0 g ↔ g.PoolOk := by
  constructor
  · rintro ⟨sum, ports, agent, capture⟩
    exact ⟨sum, ports .a, ports .b, agent, capture⟩
  · rintro ⟨sum, a, b, agent, capture⟩
    exact ⟨sum, fun p => by cases p <;> assumption, agent, capture⟩

theorem promptIf_egressCount (c : DecisionRecord → Bool) (q : Port) :
    (Port.promptIf c q).egressCount = q.egressCount := by
  rw [promptIf_eq]
  rfl

/-- The changes by which no frame joins or leaves a port keep its egress count (R53). -/
theorem Port.Moves.egressCount {q r : Port} (h : q.Moves r) : r.egressCount = q.egressCount := by
  cases h
  case prompt c => exact promptIf_egressCount c q
  case ask =>
    unfold Port.pauseAsk
    repeat' split
    all_goals rfl
  case loadPause f active empty => simp [Port.egressCount, Port.loadSlot, TxSlot.poolFrames, empty]
  case load e r active empty head =>
    have less := head_queued head
    simp only [Port.queued] at less
    simp only [Port.egressCount, Port.loadSlot, TxSlot.poolFrames, empty]
    omega
  case takeRetest =>
    unfold Port.takeRetest
    split <;> rfl
  case startBit =>
    unfold Port.startBit
    split <;> rfl
  case advance point =>
    unfold Port.advance
    cases point <;> dsimp only <;> split <;> rfl
  case tick => simp [Port.egressCount, Port.tick]
  case fault cause present =>
    unfold Port.setFault
    cases cause <;> dsimp only <;> split <;> rfl
  all_goals rfl

theorem heldBuffers_setPort (g : Gateway) (p : PortId) (q : Port) :
    (g.setPort p q).heldBuffers + (g.port p).egressCount = g.heldBuffers + q.egressCount := by
  cases p <;> simp only [Gateway.heldBuffers, Gateway.setPort_a, Gateway.setPort_b, Gateway.port_a, Gateway.port_b] <;>
    omega

/-- A port replaced, with the frames it gains or loses taken from or put among those between two places. -/
theorem setPort_poolHeld {n m : Nat} {g : Gateway} {p : PortId} {q : Port} (h : PoolHeld n g)
    (sum : q.egressCount + m = (g.port p).egressCount + n) (cap : q.egressCount ≤ egressCap) :
    PoolHeld m (g.setPort p q) := by
  obtain ⟨whole, ports, agent, capture⟩ := h
  have free : (g.setPort p q).free = g.free := by cases p <;> rfl
  have held := heldBuffers_setPort g p q
  refine ⟨by omega, fun x => ?_, ?_, ?_⟩
  · rcases PortId.eq_or_other p x with rfl | rfl
    · simpa using cap
    · simpa using ports p.other
  · cases p <;> exact agent
  · cases p <;> exact capture

theorem Port.egressCount_flushed (q : Port) : q.flushed.egressCount = 0 := by
  simp [Port.flushed, Port.egressCount, Port.emptySlot, TxSlot.poolFrames]

theorem Port.buffers_length (q : Port) : q.buffers.length = q.egressCount := by
  unfold Port.buffers Port.egressCount
  cases q.slot <;> simp [TxSlot.poolFrames, Nat.add_assoc]

theorem poolHeld_of_same {n : Nat} {g t : Gateway} (a : t.portA.egressCount = g.portA.egressCount)
    (b : t.portB.egressCount = g.portB.egressCount) (free : t.free = g.free)
    (agent : t.agentQueue.length = g.agentQueue.length) (capture : t.capture = g.capture) (h : PoolHeld n g) :
    PoolHeld n t := by
  obtain ⟨whole, ports, agents, captures⟩ := h
  refine ⟨?_, fun p => ?_, by rwa [agent], by rwa [capture]⟩
  · simpa only [Gateway.heldBuffers, a, b, free, agent, capture] using whole
  · cases p
    · exact a.trans_le (ports .a)
    · exact b.trans_le (ports .b)

theorem poolHeld_flow : BufferFlow PoolHeld where
  aside {n g t} frame h := by
    have a : t.portA = g.portA := frame .portA (by decide)
    have b : t.portB = g.portB := frame .portB (by decide)
    have agent : t.agentQueue = g.agentQueue := frame .agentQueue (by decide)
    exact poolHeld_of_same (by rw [a]) (by rw [b]) (frame .free (by decide)) (by rw [agent])
      (frame .capture (by decide)) h
  moves {n g p q} moves h :=
    setPort_poolHeld h (by rw [moves.egressCount]) (moves.egressCount.trans_le (h.2.1 p))
  take {n g} free h := by
    obtain ⟨whole, ports, agent, capture⟩ := h
    have held : ({ g with free := g.free - 1 } : Gateway).heldBuffers = g.heldBuffers := rfl
    exact ⟨by dsimp only; omega, ports, agent, capture⟩
  give {n g} k h := by
    obtain ⟨whole, ports, agent, capture⟩ := h
    have held : ({ g with free := g.free + k } : Gateway).heldBuffers = g.heldBuffers := rfl
    exact ⟨by dsimp only; omega, ports, agent, capture⟩
  enqueue {n g p} name b admits h := by
    have room := ((Port.admits_eq_true_iff _).mp admits).2
    have longer : ((g.port p).enqueue name b).egressCount = (g.port p).egressCount + 1 := by
      cases name <;> simp [Port.egressCount, Port.enqueue] <;> omega
    exact setPort_poolHeld (q := (g.port p).enqueue name b) h (by omega) (by omega)
  head {n g p e q} head h := by
    have less := head_queued head
    have slot := (head_state_slot head).2
    have cap := h.2.1 p
    have shorter : q.egressCount + 1 = (g.port p).egressCount := by
      simp only [Port.queued] at less
      simp only [Port.egressCount, slot]
      omega
    exact setPort_poolHeld h (by omega) (by omega)
  finish {n g p view abort} ends h := by
    have emptied : ((g.port p).finished view abort).egressCount + (g.port p).slot.poolFrames =
        (g.port p).egressCount := by simp [Port.finished, Port.egressCount, Port.emptySlot, TxSlot.poolFrames]
    have cap := h.2.1 p
    exact setPort_poolHeld (q := (g.port p).finished view abort) h (by omega) (by omega)
  captured {n g} b room h := by
    obtain ⟨whole, ports, agent, -⟩ := h
    refine ⟨?_, ports, agent, ?_⟩
    · simp only [Gateway.heldBuffers, List.length_append, List.length_singleton] at whole ⊢
      omega
    · simp only [List.length_append, List.length_singleton]
      omega
  released {n g} full h := by
    obtain ⟨whole, ports, agent, capture⟩ := h
    have shorter : g.capture.tail.length + 1 = g.capture.length := by
      have some := List.length_pos_iff.mpr full
      rw [List.length_tail]
      omega
    refine ⟨?_, ports, agent, ?_⟩
    · simp only [Gateway.heldBuffers] at whole ⊢
      omega
    · dsimp only
      omega
  requested {n g} e _ room h := by
    obtain ⟨whole, ports, -, capture⟩ := h
    refine ⟨?_, ports, ?_, capture⟩
    · simp only [Gateway.heldBuffers, List.length_append, List.length_singleton] at whole ⊢
      omega
    · simp only [List.length_append, List.length_singleton]
      omega
  begins {n g} e ex _ _ h := poolHeld_of_same (g := g) rfl rfl rfl (updateFirst_length _ _ _) rfl h
  executes _ _ h := h
  offers {n g} p h := poolHeld_of_same (g := g) rfl rfl rfl (List.length_map _) rfl h
  replies {n g c e} _ found h := by
    refine ⟨?_, poolHeld_of_same (g := g) rfl rfl rfl (updateFirst_length _ _ _) rfl h⟩
    obtain ⟨whole, ports, agent, capture⟩ := h
    have meets : g.agentQueue.any c = true :=
      List.any_eq_true.mpr ⟨e, List.mem_of_find?_eq_some found, List.find?_some found⟩
    have shorter := removeFirst_length c g.agentQueue meets
    refine ⟨?_, ports, ?_, capture⟩
    · simp only [Gateway.heldBuffers] at whole ⊢
      omega
    · dsimp only
      omega
  stops {n g} turn _ _ h := by
    have stopped : PoolHeld n (g.stopped turn) :=
      poolHeld_of_same (g := g) rfl rfl rfl (updateFirst_length _ _ _) rfl h
    refine ⟨fun _ => stopped, fun e found => ⟨?_, ?_⟩⟩
    · obtain ⟨whole, ports, agent, capture⟩ := stopped
      have meets : (g.stopped turn).agentQueue.any AgentEntry.isExecuting = true :=
        List.any_eq_true.mpr ⟨e, List.mem_of_find?_eq_some found, List.find?_some found⟩
      have shorter := removeFirst_length _ _ meets
      refine ⟨?_, ports, ?_, capture⟩
      · simp only [Gateway.heldBuffers] at whole ⊢
        omega
      · dsimp only
        omega
    · exact poolHeld_of_same (g := g.stopped turn) rfl rfl rfl (updateFirst_length _ _ _) rfl stopped

/-- A change of a port that keeps its egress count keeps the pool. -/
theorem modPort_poolHeld {g : Gateway} (p : PortId) {f : Port → Port}
    (keeps : (f (g.port p)).egressCount = (g.port p).egressCount) (h : PoolHeld 0 g) : PoolHeld 0 (g.modPort p f) :=
  setPort_poolHeld h (by rw [keeps]) (keeps.trans_le (h.2.1 p))

theorem endClaim_egressCount (q : Port) : q.endClaim.egressCount = q.egressCount := by
  unfold Port.endClaim
  split <;> rfl

theorem stopSending_egressCount (q : Port) : q.stopSending.egressCount = q.egressCount := by
  unfold Port.stopSending
  split <;> rfl

theorem dropLink_egressCount (q : Port) : q.dropLink.egressCount = q.egressCount := by
  unfold Port.dropLink
  dsimp only
  split
  · exact (stopSending_egressCount _).trans (endClaim_egressCount _)
  · rfl

theorem poolHeld_commands : CommandFlow PoolHeld where
  toBufferFlow := poolHeld_flow
  raiseLink _ h := modPort_poolHeld _ rfl h
  dropLink _ h := modPort_poolHeld _ (dropLink_egressCount _) h
  writePort {g targets} _ _ h := by
    refine writePort_keeps poolHeld_flow (fun p f h => modPort_poolHeld p rfl h) (fun p h => modPort_poolHeld p ?_ h)
      (fun {g} p h => setPort_poolHeld h ?_ ?_) (fun p h => modPort_poolHeld p rfl h) targets h
    · simp only [Port.changeRate, Port.setFault]
      split <;> rfl
    · rw [Port.egressCount_flushed, Port.buffers_length]
      omega
    · rw [Port.egressCount_flushed]
      exact Nat.zero_le _
  reset cause _ := ⟨rfl, fun p => by cases p <;> exact Nat.zero_le _, Nat.zero_le _, Nat.zero_le _⟩
  load _ _ h := h
  loadPort {g} page _ h := by
    unfold Gateway.loadPort
    split <;> exact modPort_poolHeld .b rfl (modPort_poolHeld .a rfl h)
  started {g} _ h := poolHeld_of_same (g := g) rfl rfl rfl rfl rfl h

theorem poolOk_kept : Kept Gateway.PoolOk :=
  kept_of_effect fun c g h => (poolHeld_zero_iff _).mp (poolHeld_commands.effect_keeps c ((poolHeld_zero_iff g).mpr h))

/-! ## The agent (R119) -/

/-- What a change of the first element that meets `c` does to a count. -/
theorem countP_updateFirst {c P : AgentEntry → Bool} (f : AgentEntry → AgentEntry) {l : List AgentEntry} {e : AgentEntry}
    (found : l.find? c = some e) :
    (updateFirst c f l).countP P + (if P e then 1 else 0) = l.countP P + if P (f e) then 1 else 0 := by
  induction l with
  | nil => cases found
  | cons a l ih =>
    unfold updateFirst
    by_cases first : c a = true
    · obtain rfl : a = e := by simpa [first] using found
      rw [if_pos first, List.countP_cons, List.countP_cons]
      omega
    · have later := ih (by simpa [first] using found)
      rw [if_neg first, List.countP_cons, List.countP_cons]
      omega

theorem countP_removeFirst {c P : AgentEntry → Bool} {l : List AgentEntry} {e : AgentEntry}
    (found : l.find? c = some e) : (removeFirst c l).countP P + (if P e then 1 else 0) = l.countP P := by
  induction l with
  | nil => cases found
  | cons a l ih =>
    unfold removeFirst
    by_cases first : c a = true
    · obtain rfl : a = e := by simpa [first] using found
      rw [if_pos first, List.countP_cons]
    · have later := ih (by simpa [first] using found)
      rw [if_neg first, List.countP_cons, List.countP_cons]
      omega

theorem countP_eq_zero_of_find?_none {c : AgentEntry → Bool} {l : List AgentEntry} (none : l.find? c = none) :
    l.countP c = 0 :=
  List.countP_eq_zero.mpr fun e inside => List.find?_eq_none.mp none e inside

/-- A change of an element that keeps whether it is EXECUTING keeps the count. -/
theorem countP_isExecuting_updateFirst {c : AgentEntry → Bool} {f : AgentEntry → AgentEntry} (l : List AgentEntry)
    (keeps : ∀ e, c e = true → (f e).isExecuting = e.isExecuting) :
    (updateFirst c f l).countP AgentEntry.isExecuting = l.countP AgentEntry.isExecuting := by
  induction l with
  | nil => rfl
  | cons a l ih =>
    unfold updateFirst
    split
    · rename_i first
      rw [List.countP_cons, List.countP_cons, keeps a first]
    · rw [List.countP_cons, List.countP_cons, ih]

theorem agentOk_of_same {g t : Gateway} (agent : t.agentQueue = g.agentQueue) (exec : t.exec = g.exec) (h : g.AgentOk) :
    t.AgentOk := by
  simpa only [Gateway.AgentOk, agent, exec] using h

theorem agentOk_of_count {g t : Gateway}
    (count : t.agentQueue.countP AgentEntry.isExecuting = g.agentQueue.countP AgentEntry.isExecuting)
    (exec : t.exec.isSome = g.exec.isSome) (h : g.AgentOk) : t.AgentOk := by
  simpa only [Gateway.AgentOk, count, exec] using h

theorem setPort_agentOk {g : Gateway} (p : PortId) (q : Port) (h : g.AgentOk) : (g.setPort p q).AgentOk := by
  cases p <;> exact h

theorem isExecuting_of_replyWait {e : AgentEntry} (h : e.state = .replyWait) : e.isExecuting = false := by
  simp [AgentEntry.isExecuting, h]

theorem agentOk_begins {g : Gateway} (e : AgentEntry) (ex : Execution) (idle : g.exec = none)
    (found : g.agentQueue.find? AgentEntry.isWaiting = some e) (h : g.AgentOk) :
    ({ g with
      agentQueue := updateFirst AgentEntry.isWaiting (fun e => { e with state := .executing }) g.agentQueue
      exec := some ex } : Gateway).AgentOk := by
  have waiting : e.isExecuting = false := by
    have state := List.find?_some found
    simp only [AgentEntry.isWaiting, decide_eq_true_eq] at state
    simp [AgentEntry.isExecuting, state]
  have count := countP_updateFirst (P := AgentEntry.isExecuting) (fun e => { e with state := .executing }) found
  have none : g.agentQueue.countP AgentEntry.isExecuting = 0 := by simpa [Gateway.AgentOk, idle] using h
  have starts : (({ e with state := .executing } : AgentEntry)).isExecuting = true := rfl
  simp only [waiting, none, starts, Bool.false_eq_true, if_false, if_true] at count
  show (updateFirst _ _ g.agentQueue).countP AgentEntry.isExecuting = 1
  omega

/-- A waiting reply taken off the queue, or left waiting, is none that executes. -/
theorem agentOk_replies {g : Gateway} {c : AgentEntry → Bool} {e : AgentEntry}
    (waiting : ∀ e, c e = true → e.state = .replyWait) (found : g.agentQueue.find? c = some e) (h : g.AgentOk) :
    ({ g with agentQueue := removeFirst c g.agentQueue } : Gateway).AgentOk ∧
      ({ g with agentQueue := updateFirst c AgentEntry.asWaitingReply g.agentQueue } : Gateway).AgentOk := by
  have silent := isExecuting_of_replyWait (waiting e (List.find?_some found))
  have count := countP_removeFirst (P := AgentEntry.isExecuting) found
  simp only [silent, Bool.false_eq_true, if_false] at count
  refine ⟨agentOk_of_count (g := g) count rfl h, agentOk_of_count (g := g) ?_ rfl h⟩
  refine countP_isExecuting_updateFirst g.agentQueue fun e meets => ?_
  rw [isExecuting_of_replyWait (waiting e meets)]
  rfl

theorem agentOk_stops {g : Gateway} {turn : AgentEntry → AgentEntry} (keeps : ∀ e, (turn e).state = e.state)
    (executing : g.exec.isSome = true) (h : g.AgentOk) :
    ((g.stopped turn).agentQueue.find? AgentEntry.isExecuting = none → (g.stopped turn).AgentOk) ∧
    ∀ e, (g.stopped turn).agentQueue.find? AgentEntry.isExecuting = some e →
      ({ g.stopped turn with
        agentQueue := removeFirst AgentEntry.isExecuting (g.stopped turn).agentQueue } : Gateway).AgentOk ∧
      ({ g.stopped turn with
        agentQueue := updateFirst AgentEntry.isExecuting AgentEntry.asWaitingReply (g.stopped turn).agentQueue
      } : Gateway).AgentOk := by
  have one : (g.stopped turn).agentQueue.countP AgentEntry.isExecuting = 1 := by
    refine (countP_isExecuting_updateFirst g.agentQueue fun e _ => ?_).trans (by simpa [Gateway.AgentOk, executing] using h)
    simp [AgentEntry.isExecuting, keeps]
  refine ⟨fun none => countP_eq_zero_of_find?_none none, fun e found => ?_⟩
  have executes := List.find?_some found
  have removed := countP_removeFirst (P := AgentEntry.isExecuting) found
  have waits := countP_updateFirst (P := AgentEntry.isExecuting) AgentEntry.asWaitingReply found
  have still : e.asWaitingReply.isExecuting = false := rfl
  simp only [executes, still, Bool.false_eq_true, if_false, if_true, one] at removed waits
  constructor
  · show (removeFirst _ (g.stopped turn).agentQueue).countP AgentEntry.isExecuting = 0
    omega
  · show (updateFirst _ _ (g.stopped turn).agentQueue).countP AgentEntry.isExecuting = 0
    omega

/-- Whether the agent's queue and its execution agree is no matter of how many buffers are between two places. -/
def AgentAgrees (_ : Nat) (g : Gateway) : Prop :=
  g.AgentOk

theorem agentAgrees_flow : BufferFlow AgentAgrees where
  aside frame h := agentOk_of_same (frame .agentQueue (by decide)) (frame .exec (by decide)) h
  moves _ h := setPort_agentOk _ _ h
  take _ h := h
  give _ h := h
  enqueue _ _ _ h := setPort_agentOk _ _ h
  head _ h := setPort_agentOk _ _ h
  finish _ h := setPort_agentOk _ _ h
  captured _ _ h := h
  released _ h := h
  requested {n g} e waiting _ h := by
    refine agentOk_of_count (g := g) ?_ rfl h
    have still : e.isExecuting = false := by simp [AgentEntry.isExecuting, waiting]
    simp [still]
  begins e ex idle found h := agentOk_begins e ex idle found h
  executes {n g} ex some h := agentOk_of_count (g := g) rfl some.symm h
  offers {n g} p h := by
    refine agentOk_of_count (g := g) ?_ rfl h
    dsimp only
    rw [List.countP_map]
    refine List.countP_congr fun e _ => ?_
    simp only [Function.comp_apply]
    split <;> rfl
  replies waiting found h := agentOk_replies waiting found h
  stops turn keeps some h := agentOk_stops keeps some h

theorem agentAgrees_commands : CommandFlow AgentAgrees where
  toBufferFlow := agentAgrees_flow
  raiseLink _ h := setPort_agentOk _ _ h
  dropLink _ h := setPort_agentOk _ _ h
  writePort {g targets} _ _ h :=
    writePort_keeps agentAgrees_flow (fun p _ h => setPort_agentOk p _ h) (fun p h => setPort_agentOk p _ h)
      (fun p h => setPort_agentOk p _ h) (fun p h => setPort_agentOk p _ h) targets h
  reset _ _ := rfl
  load _ _ h := h
  loadPort {g} page _ h := by
    unfold Gateway.loadPort
    split <;> exact h
  started _ h := h

theorem agentOk_kept : Kept Gateway.AgentOk :=
  kept_of_effect fun c _ h => agentAgrees_commands.effect_keeps c h

/-- Settles O53, by the rules by which frames move: each takes a buffer from one place to the next, a claim only where
there is room, and an execution begins with one entry and ends with it. -/
theorem poolAndAgentKept : Obligations.PoolAndAgentKept := ⟨poolOk_kept, agentOk_kept⟩

end Sys2Proof.Machine
end

section
/-! SUPPORT. Ports stay in legal, consistent states (R3, R4, R11, R19 to R24, R27, R29, R31, R42, R44, R54). -/

open Sys2Proof

namespace Sys2Proof.Machine

/-! ## What holds of a port apart from its mode field -/

/-- All that is claimed of a port but that the mode field names its state, which is put right at the end of a WRITE. -/
structure Port.SideOk (q : Port) : Prop where
  words : q.words.InRange
  starting : q.StartingOk
  quiet : q.QuietWhenOut
  transmit : q.TransmitOk
  abort : q.AbortOk
  line : q.LineOk
  hold : q.HoldOk
  ages : q.AgesOk
  linkCount : q.linkCount ≤ 255

theorem Port.ok_iff (q : Port) : q.Ok ↔ q.SideOk ∧ q.ModeOk := by
  constructor
  · rintro ⟨words, starting, mode, quiet, transmit, abort, line, hold, ages, count⟩
    exact ⟨⟨words, starting, quiet, transmit, abort, line, hold, ages, count⟩, mode⟩
  · rintro ⟨⟨words, starting, quiet, transmit, abort, line, hold, ages, count⟩, mode⟩
    exact ⟨words, starting, mode, quiet, transmit, abort, line, hold, ages, count⟩

theorem promptIf_cases (c : DecisionRecord → Bool) (q : Port) :
    Port.promptIf c q = q ∨ ∃ t u, q.role = .holding t u ∧ Port.promptIf c q = { q with role := .holding t true } := by
  unfold Port.promptIf
  split
  · split
    · exact .inr ⟨_, _, ‹_›, rfl⟩
    · exact .inl rfl
  · exact .inl rfl

/-- A port that is ONLINE is not STARTING. -/
theorem Port.not_starting_of_online {q : Port} (h : q.online = true) : q.state ≠ .starting := by
  intro starting
  simp [Port.online, starting] at h

namespace Port.SideOk

variable {q : Port} (h : q.SideOk)

include h

/-- A port that receives or answers a frame sends none (R24, R29). -/
theorem offLine_of_rx (rx : q.rx ≠ .rIdle) : q.tx.onLine = false := by
  by_contra online
  exact rx (h.line.1 (by simpa using online))

theorem abort_nil_of_rx (rx : q.rx ≠ .rIdle) : q.abort = [] := by
  by_contra drives
  obtain ⟨-, -, -, idle, -⟩ := h.abort drives
  exact rx idle

theorem abort_nil_of_view (view : q.view ≠ .resync 0) : q.abort = [] := by
  by_contra drives
  obtain ⟨-, -, zero, -, -⟩ := h.abort drives
  exact view zero

theorem abort_nil_of_state (state : q.state ≠ .active) : q.abort = [] := by
  by_contra drives
  obtain ⟨-, active, -, -, -⟩ := h.abort drives
  exact state active

theorem abort_nil_of_onLine (online : q.tx.onLine = true) : q.abort = [] := by
  by_contra drives
  obtain ⟨-, -, -, -, off⟩ := h.abort drives
  simp [online] at off

theorem free_of_view (view : q.view ≠ .inSlot) : q.isHolding = false := by
  by_contra holds
  obtain ⟨-, -, slot, -, -⟩ := h.hold (by simpa using holds)
  exact view slot

theorem free_of_state (state : q.state ≠ .active) : q.isHolding = false := by
  by_contra holds
  obtain ⟨active, -, -, -, -⟩ := h.hold (by simpa using holds)
  exact state active

theorem free_of_rx (rx : q.rx ≠ .rSlot) : q.isHolding = false := by
  by_contra holds
  obtain ⟨-, slot, -, -, -⟩ := h.hold (by simpa using holds)
  exact rx slot

/-- Off a frame the port neither receives nor sends (R3). -/
theorem idle_of_view (frame : q.view ≠ .inFrame) (slot : q.view ≠ .inSlot) :
    q.rx = .rIdle ∧ q.tx.onLine = false := by
  obtain ⟨-, frames, slots, arbitrates, acknowledged, -⟩ := h.line
  constructor
  · cases rx : q.rx
    · rfl
    · exact absurd (frames rx) frame
    · exact absurd (slots rx) slot
  · cases tx : q.tx
    · rfl
    · rfl
    · exact absurd (arbitrates (.inl tx)) frame
    · exact absurd (arbitrates (.inr tx)) frame
    · exact absurd (acknowledged tx) slot

/-- A change of the receive side of a port that sends nothing and drives no abort pattern, to one that holds nothing
and agrees with its view. -/
theorem receive (off : q.tx.onLine = false) (still : q.abort = []) {rx : RxState} {view : LineView} {role : SlotRole}
    (staging : Option Staged) (record : Option DecisionRecord) (starting : q.state = .starting → rx = .rIdle)
    (frames : rx = .rFrame → view = .inFrame) (slots : rx = .rSlot → view = .inSlot)
    (reads : view = .inFrame ∨ view = .inSlot → rx ≠ .rIdle) (free : ({ q with role := role } : Port).isHolding = false) :
    ({ q with rx := rx, view := view, role := role, staging := staging, record := record } : Port).SideOk := by
  obtain ⟨words, start, quiet, transmit, -, -, -, ages, count⟩ := h
  refine ⟨words, fun state => ⟨starting state, (start state).2⟩, quiet, transmit, fun drives => absurd still drives,
    ?_, fun holds => ?_, ages, count⟩
  · have none : ∀ t, q.tx = t → t.onLine = true → False := by
      rintro t rfl online
      simp [off] at online
    refine ⟨fun online => absurd online (by simp [off]), frames, slots, ?_, fun tx => (none _ tx rfl).elim,
      fun reading => .inr (reads reading)⟩
    rintro (tx | tx)
    · exact (none _ tx rfl).elim
    · exact (none _ tx rfl).elim
  · exact absurd holds (by simpa [Port.isHolding] using free)

/-- A frame put into the empty slot of an ACTIVE port (R59). -/
theorem loadSlot (active : q.state = .active) (empty : q.slot = .empty) {s : TxSlot} (full : s ≠ .empty) :
    (q.loadSlot s).SideOk := by
  obtain ⟨words, starting, -, transmit, abort, line, hold, ages, count⟩ := h
  obtain ⟨-, frames, slots, -, -, reads⟩ := line
  have off : q.tx.onLine = false := by rw [transmit.1.mp empty]; rfl
  refine ⟨words, starting, .inl (Port.online_of_active active), ⟨⟨fun none => absurd none full, nofun⟩,
    fun none => absurd none full, Nat.zero_le _, ⟨nofun, nofun⟩, nofun⟩, fun drives => ?_,
    ⟨nofun, frames, slots, ?_, nofun, fun view => .inr ?_⟩, hold, ages, count⟩
  · obtain ⟨pattern, state, view, rx, -⟩ := abort drives
    exact ⟨pattern, state, view, rx, rfl⟩
  · rintro (tx | tx) <;> cases tx
  · rcases reads view with online | rx
    · simp [off] at online
    · exact rx

/-- A port without its old head (R58). -/
theorem head {r : Port} {e : QueueEntry} (head : q.head = some (e, r)) : r.SideOk := by
  have online : q.online = true := by
    rcases h.quiet with online | ⟨none, -⟩
    · exact online
    · have less := head_queued head
      simp only [Port.queued, Port.egressCount] at less none
      omega
  obtain ⟨words, starting, -, transmit, abort, line, hold, ages, count⟩ := h
  unfold Port.head at head
  split at head <;> cases head
  · rename_i rest urgent
    refine ⟨words, starting, .inl online, transmit, abort, line, hold, fun e inside => ages e ?_, count⟩
    simp only [urgent, List.cons_append, List.mem_cons]
    exact .inr inside
  · rename_i rest urgent normal
    refine ⟨words, starting, .inl online, transmit, abort, line, hold, fun e inside => ages e ?_, count⟩
    rw [List.mem_append] at inside ⊢
    refine inside.imp_right fun inside => ?_
    rw [normal]
    exact List.mem_cons_of_mem _ inside

/-- A frame that joins a queue of an ONLINE port joins it with age 0 (R55). -/
theorem enqueue (online : q.online = true) (name : QueueName) (b : PoolBuffer) : (q.enqueue name b).SideOk := by
  obtain ⟨words, starting, -, transmit, abort, line, hold, ages, count⟩ := h
  have young : ∀ e ∈ (q.enqueue name b).urgent ++ (q.enqueue name b).normal, e.age ≤ 65535 := by
    intro e inside
    have old := ages e
    cases name <;>
      simp only [Port.enqueue, List.mem_append, List.mem_singleton] at inside old
    · rcases inside with (inside | rfl) | inside
      · exact old (.inl inside)
      · exact Nat.zero_le _
      · exact old (.inr inside)
    · rcases inside with inside | inside | rfl
      · exact old (.inl inside)
      · exact old (.inr inside)
      · exact Nat.zero_le _
  cases name <;> exact ⟨words, starting, .inl online, transmit, abort, line, hold, young, count⟩

/-- An attempt that is over leaves the line, with the view in the gap or resynchronising (R31 to R34). -/
theorem leaveLine {view : LineView} {abort : List Bool} (ends : q.Ends view abort) {slot : TxSlot} {tx : TxState}
    {attempts : Nat} (idle : slot = .empty ↔ tx = .tIdle) (fresh : slot = .empty → attempts = 0) (few : attempts ≤ 15)
    (off : tx.onLine = false) :
    ({ q with
      view := view, abort := abort, slot := slot, attempts := attempts, tx := tx, sending := none,
      tolerance := none } : Port).SideOk := by
  have rx := h.line.1 ends.1
  have still := h.abort_nil_of_onLine ends.1
  have free : q.isHolding = false := h.free_of_rx (by simp [rx])
  have active := h.transmit.2.2.2.2 ends.1
  obtain ⟨words, starting, -, transmit, -, -, -, ages, count⟩ := h
  have away : view ≠ .inFrame ∧ view ≠ .inSlot := by
    rcases ends.2 with ⟨rfl, -⟩ | ⟨rfl, -⟩ <;> simp
  have none_ : ∀ t, tx = t → t.onLine = true → False := by
    rintro t rfl online
    simp [off] at online
  refine ⟨words, starting, .inl (Port.online_of_active active),
    ⟨idle, fresh, few, ⟨nofun, fun online => by simp [off] at online⟩, fun _ => active⟩, fun drives => ?_,
    ⟨fun _ => rx, fun frame => ?_, fun slot => ?_, ?_, fun now => (none_ _ now rfl).elim, ?_⟩, fun holds => ?_, ages,
    count⟩
  · rcases ends.2 with ⟨-, same⟩ | ⟨view, same | ⟨pattern, -⟩⟩
    · exact absurd (same.trans still) drives
    · exact absurd (same.trans still) drives
    · exact ⟨pattern, active, view, rx, off⟩
  · simp [rx] at frame
  · simp [rx] at slot
  · rintro (now | now)
    · exact (none_ _ now rfl).elim
    · exact (none_ _ now rfl).elim
  · rintro (now | now)
    · exact absurd now away.1
    · exact absurd now away.2
  · exact absurd holds (by simpa [Port.isHolding] using free)

end Port.SideOk

theorem recessive_eq_inFrame_iff (v : LineView) (bits : Nat) : v.recessive bits = .inFrame ↔ v = .inFrame := by
  unfold LineView.recessive
  split <;> try split
  all_goals simp

theorem recessive_eq_inSlot_iff (v : LineView) (bits : Nat) : v.recessive bits = .inSlot ↔ v = .inSlot := by
  unfold LineView.recessive
  split <;> try split
  all_goals simp

/-- Recessive bit times leave a port consistent (R3, R11). -/
theorem hearRecessive_sideOk {q : Port} (h : q.SideOk) (bits : Nat) : (Port.hearRecessive bits q).SideOk := by
  obtain ⟨words, starting, quiet, transmit, abort, ⟨silent, frames, slots, arbitrates, acknowledged, reads⟩, hold, ages,
    count⟩ := h
  refine ⟨words, starting, quiet, transmit, fun drives => ?_, ⟨silent, ?_, ?_, ?_, ?_, ?_⟩, fun holds => ?_, ages, count⟩
  · by_cases zero : bits = 0
    · obtain ⟨pattern, active, view, rx, off⟩ := abort (by simpa [Port.hearRecessive, zero] using drives)
      refine ⟨by simpa [Port.hearRecessive, zero] using pattern, active, ?_, rx, off⟩
      simp [Port.hearRecessive, view, zero, LineView.recessive]
    · simp [Port.hearRecessive, zero] at drives
  all_goals simp only [Port.hearRecessive, recessive_eq_inFrame_iff, recessive_eq_inSlot_iff]
  · exact frames
  · exact slots
  · exact arbitrates
  · exact acknowledged
  · exact reads
  · obtain ⟨active, slot, view, staging, record⟩ := hold holds
    exact ⟨active, slot, view, staging, record⟩

/-- A dominant bit in the gap or idle opens a frame on a port that has nothing else to do (R24). -/
theorem startBit_sideOk {q : Port} (h : q.SideOk) (follows : q.follows = true) : q.startBit.SideOk := by
  have running : q.state ≠ .starting := by simpa [Port.follows] using follows
  have opens : q.view ≠ .inFrame → q.view ≠ .inSlot → q.view ≠ .resync 0 →
      ({ q with view := .inFrame, rx := .rFrame } : Port).SideOk := by
    intro frame slot zero
    exact h.receive (h.idle_of_view frame slot).2 (h.abort_nil_of_view zero) (role := q.role) q.staging q.record
      (fun starting => absurd starting running) (fun _ => rfl) nofun nofun (h.free_of_view slot)
  unfold Port.startBit
  split
  · rename_i n view
    exact opens (by simp [view]) (by simp [view]) (by simp [view])
  · rename_i n view
    exact opens (by simp [view]) (by simp [view]) (by simp [view])
  · rename_i n view
    have away := h.idle_of_view (by simp [view]) (by simp [view])
    obtain ⟨words, starting, quiet, transmit, abort, line, hold, ages, count⟩ := h
    refine ⟨words, starting, quiet, transmit, fun drives => ?_, ?_, fun holds => ?_, ages, count⟩
    · obtain ⟨pattern, active, -, rx, off⟩ := abort drives
      exact ⟨pattern, active, rfl, rx, off⟩
    · obtain ⟨silent, frames, slots, arbitrates, acknowledged, -⟩ := line
      rw [view] at frames slots arbitrates acknowledged
      refine ⟨silent, fun rx => ?_, fun rx => ?_, fun tx => ?_, fun tx => ?_, nofun⟩
      · cases frames rx
      · cases slots rx
      · cases arbitrates tx
      · cases acknowledged tx
    · obtain ⟨-, -, slot, -, -⟩ := hold holds
      simp [view] at slot
  · exact h
  · exact h

/-- The points of an attempt leave the port consistent (R29). -/
theorem advance_sideOk {q : Port} (h : q.SideOk) (point : TxPoint) : (q.advance point).SideOk := by
  have slotted : q.tx.onLine = true → ∀ tolerance,
      ({ q with tx := .tSlot, view := .inSlot, tolerance := tolerance } : Port).SideOk := by
    intro online tolerance
    have rx := h.line.1 online
    have still := h.abort_nil_of_onLine online
    have free := h.free_of_rx (by simp [rx])
    obtain ⟨words, starting, quiet, transmit, -, -, -, ages, count⟩ := h
    obtain ⟨idle, none, few, sends, active⟩ := transmit
    have full : q.slot ≠ .empty := by
      intro empty
      simp [idle.mp empty, TxState.onLine] at online
    refine ⟨words, starting, .inl (Port.online_of_active (active online)),
      ⟨⟨fun empty => absurd empty full, nofun⟩, none, few, ⟨fun _ => rfl, fun _ => sends.mpr online⟩,
        fun _ => active online⟩, fun drives => absurd still drives, ⟨fun _ => rx, fun frame => ?_, fun _ => rfl, ?_,
        fun _ => rfl, fun _ => .inl rfl⟩, fun holds => ?_, ages, count⟩
    · simp [rx] at frame
    · rintro (tx | tx) <;> cases tx
    · exact absurd holds (by simpa [Port.isHolding] using free)
  unfold Port.advance
  cases point <;> dsimp only
  case startBit =>
    split
    · rename_i may
      simp only [Port.mayStart, Bool.and_eq_true, decide_eq_true_eq] at may
      obtain ⟨⟨⟨waits, active⟩, backedOff⟩, -⟩ := may
      obtain ⟨n, view⟩ : ∃ n, q.view = .idle n := by
        unfold Port.backedOff at backedOff
        split at backedOff
        · exact ⟨_, ‹_›⟩
        all_goals cases backedOff
      have rx := (h.idle_of_view (by simp [view]) (by simp [view])).1
      have still := h.abort_nil_of_view (by simp [view])
      have free := h.free_of_view (by simp [view])
      obtain ⟨words, starting, quiet, ⟨idle, none, few, -, -⟩, -, -, -, ages, count⟩ := h
      have full : q.slot ≠ .empty := by
        intro empty
        simp [idle.mp empty] at waits
      have sent : (q.sentFrame.map fun f => Attempt.of f.bytes).isSome = true := by
        unfold Port.sentFrame
        split <;> simp_all
      refine ⟨words, starting, .inl (Port.online_of_active active), ⟨⟨fun empty => absurd empty full, nofun⟩, none, few,
        ⟨fun _ => rfl, fun _ => sent⟩, fun _ => active⟩, fun drives => absurd still drives, ⟨fun _ => rx, fun _ => rfl,
          fun slot => ?_, fun _ => rfl, nofun, fun _ => .inl rfl⟩, fun holds => ?_, ages, count⟩
      · simp [rx] at slot
      · exact absurd holds (by simpa [Port.isHolding] using free)
    · exact h
  case fieldEnd =>
    split
    · rename_i tx
      obtain ⟨words, starting, quiet, ⟨idle, none, few, sends, active⟩, abort, line, hold, ages, count⟩ := h
      obtain ⟨silent, frames, slots, arbitrates, acknowledged, reads⟩ := line
      have online : q.tx.onLine = true := by rw [tx]; rfl
      refine ⟨words, starting, ?_, ⟨⟨fun empty => ?_, nofun⟩, none, few, ⟨fun _ => rfl, fun _ => sends.mpr online⟩,
        fun _ => active online⟩, fun drives => ?_, ⟨fun _ => silent online, frames, slots,
          fun _ => arbitrates (.inl tx), nofun, fun _ => .inl rfl⟩, hold, ages, count⟩
      · exact .inl (Port.online_of_active (active online))
      · simp [idle.mp empty] at tx
      · obtain ⟨-, -, -, -, off⟩ := abort drives
        simp [online] at off
    · exact h
  case checkEnd =>
    split
    · rename_i tx
      refine slotted ?_ q.tolerance
      rcases tx with tx | tx <;> rw [tx] <;> rfl
    · exact h
  case claimBit =>
    split
    · exact slotted ‹_› _
    · exact h

/-- A lost arbitration leaves a port that receives the frame that won (R30). -/
theorem loseArbitration_sideOk {q : Port} (h : q.SideOk) (tx : q.tx = .tArb) :
    ({ q with tx := .tWaitIdle, rx := .rFrame, sending := none } : Port).SideOk := by
  have online : q.tx.onLine = true := by rw [tx]; rfl
  have view := h.line.2.2.2.1 (.inl tx)
  have active := h.transmit.2.2.2.2 online
  have free := h.free_of_view (by simp [view])
  have still := h.abort_nil_of_onLine online
  obtain ⟨words, starting, quiet, ⟨idle, none, few, -, -⟩, -, -, -, ages, count⟩ := h
  refine ⟨words, fun start => by simp [active] at start, .inl (Port.online_of_active active),
    ⟨⟨fun empty => ?_, nofun⟩, none, few, ⟨nofun, nofun⟩, nofun⟩, fun drives => absurd still drives,
    ⟨nofun, fun _ => view, nofun, ?_, nofun, fun _ => .inr (by simp)⟩, fun holds => ?_, ages, count⟩
  · simp [idle.mp empty] at tx
  · rintro (now | now) <;> cases now
  · exact absurd holds (by simpa [Port.isHolding] using free)

theorem tick_sideOk {q : Port} (h : q.SideOk) : q.tick.SideOk := by
  obtain ⟨words, starting, quiet, transmit, abort, line, hold, ages, count⟩ := h
  refine ⟨words, starting, quiet.imp_right ?_, transmit, abort, line, hold, fun e inside => ?_, Nat.min_le_left _ _⟩
  · rintro ⟨none, rest⟩
    refine ⟨?_, rest⟩
    simpa [Port.egressCount, Port.tick] using none
  · simp only [Port.tick, ← List.map_append, List.mem_map] at inside
    obtain ⟨old, -, rfl⟩ := inside
    exact Nat.min_le_left _ _

/-- A line condition that appears or clears touches the link supervisor alone (R40, R41). -/
theorem setFault_eq (q : Port) (cause : LineFault) (present : Bool) :
    ∃ noBias stuck count, count ≤ q.linkCount ∧
      q.setFault cause present = { q with noBias := noBias, stuckDominant := stuck, linkCount := count } := by
  unfold Port.setFault
  cases cause <;> dsimp only <;> split
  · exact ⟨present, q.stuckDominant, q.linkCount, Nat.le_refl _, rfl⟩
  · exact ⟨present, q.stuckDominant, 0, Nat.zero_le _, rfl⟩
  · exact ⟨q.noBias, present, q.linkCount, Nat.le_refl _, rfl⟩
  · exact ⟨q.noBias, present, 0, Nat.zero_le _, rfl⟩

theorem setFault_sideOk {q : Port} (h : q.SideOk) (cause : LineFault) (present : Bool) :
    (q.setFault cause present).SideOk := by
  obtain ⟨noBias, stuck, less, le, same⟩ := setFault_eq q cause present
  obtain ⟨words, starting, quiet, transmit, abort, line, hold, ages, count⟩ := h
  rw [same]
  exact ⟨words, starting, quiet, transmit, abort, line, hold, ages, le.trans count⟩

/-- A retry limit in range is one that the attempt count can show (R42, R44). -/
theorem retryLimit_le {w : PortWords} (h : w.InRange) : w.retryLimit.toNat ≤ 15 := by
  obtain ⟨range, masked⟩ := h 3 (by decide)
  have low : field w.retryLimit 0 12 ≤ 15 := by simpa [portWordInRange, PortWords.get] using range
  have small : w.retryLimit.toNat < 4096 := by
    have bound : (w.retryLimit &&& 0x0FFF).toNat ≤ 0x0FFF := by
      rw [BitVec.toNat_and]
      exact Nat.and_le_right
    have same : w.retryLimit &&& 0x0FFF = w.retryLimit := masked
    rw [same] at bound
    omega
  simpa [field, Nat.mod_eq_of_lt small] using low

theorem Port.Moves.sideOk {q r : Port} (moves : q.Moves r) (h : q.SideOk) : r.SideOk := by
  have whole := h
  obtain ⟨words, starting, quiet, transmit, abort, line, hold, ages, count⟩ := h
  cases moves
  case prompt c =>
    rcases promptIf_cases c q with same | ⟨t, u, role, same⟩
    · rw [same]
      exact ⟨words, starting, quiet, transmit, abort, line, hold, ages, count⟩
    · rw [same]
      exact ⟨words, starting, quiet, transmit, abort, line, fun _ => hold (by simp [Port.isHolding, role]), ages, count⟩
  case ask =>
    unfold Port.pauseAsk
    split
    · rename_i online
      simp only [Bool.and_eq_true] at online
      split
      · exact ⟨words, starting, quiet, transmit, abort, line, hold, ages, count⟩
      all_goals exact ⟨words, starting, .inl online.1, transmit, abort, line, hold, ages, count⟩
    · exact ⟨words, starting, quiet, transmit, abort, line, hold, ages, count⟩
  case dropRequest =>
    refine ⟨words, starting, quiet.imp_right ?_, transmit, abort, line, hold, ages, count⟩
    rintro ⟨none, empty, idle, running, -⟩
    exact ⟨none, empty, idle, running, rfl⟩
  case answer resp r => exact ⟨words, starting, quiet, transmit, abort, line, nofun, ages, count⟩
  case acknowledge => exact ⟨words, starting, quiet, transmit, abort, line, nofun, ages, count⟩
  case hold t r awaits holding =>
    obtain ⟨active, slot, view, staging, -⟩ := awaits
    exact ⟨words, starting, quiet, transmit, abort, line, fun _ => ⟨active, slot, view, staging, by simp [holding]⟩,
      ages, count⟩
  case silence r awaits =>
    refine ⟨words, starting, quiet, transmit, abort, line, fun holds => ?_, ages, count⟩
    have role := awaits.2.2.2.2
    simp [Port.isHolding, role] at holds
  case report =>
    refine ⟨words, starting, quiet, transmit, abort, line, fun holds => ?_, ages, count⟩
    obtain ⟨active, slot, view, staging, record⟩ := hold holds
    refine ⟨active, slot, view, staging, ?_⟩
    simpa [Port.markReported, Function.comp_def] using record
  case takeRetest =>
    unfold Port.takeRetest
    split
    · rename_i t u role
      exact ⟨words, starting, quiet, transmit, abort, line, fun _ => hold (by simp [Port.isHolding, role]), ages, count⟩
    all_goals exact ⟨words, starting, quiet, transmit, abort, line, hold, ages, count⟩
  case loadPause f active empty =>
    have dropped : ({ q with pendingPause := false } : Port).SideOk := by
      refine ⟨words, starting, .inl (Port.online_of_active active), transmit, abort, line, hold, ages, count⟩
    exact dropped.loadSlot active empty nofun
  case load e r active empty head =>
    obtain ⟨state, slot⟩ := head_state_slot head
    exact (whole.head head).loadSlot (state.trans active) (slot.trans empty) nofun
  case stage f check receiving =>
    simp only [Port.receiving, Port.follows, Bool.and_eq_true, bne_iff_ne, decide_eq_true_eq] at receiving
    have rx : q.rx ≠ .rIdle := by simp [receiving.2]
    exact whole.receive (whole.offLine_of_rx rx) (whole.abort_nil_of_rx rx) _ _
      (fun start => absurd start receiving.1) nofun (fun _ => rfl) nofun rfl
  case abandon receiving =>
    simp only [Port.receiving, Port.follows, Bool.and_eq_true, bne_iff_ne, decide_eq_true_eq] at receiving
    have rx : q.rx ≠ .rIdle := by simp [receiving.2]
    exact whole.receive (whole.offLine_of_rx rx) (whole.abort_nil_of_rx rx) _ _ (fun _ => rfl) nofun nofun nofun rfl
  case endSlot slot =>
    have rx : q.rx ≠ .rIdle := by simp [slot]
    exact whole.receive (whole.offLine_of_rx rx) (whole.abort_nil_of_rx rx) _ _ (fun _ => rfl) nofun nofun nofun rfl
  case paused pause active slot =>
    have rx : q.rx ≠ .rIdle := by simp [slot]
    obtain ⟨words, starting, -, transmit, abort, line, hold, ages, count⟩ :=
      whole.receive (whole.offLine_of_rx rx) (whole.abort_nil_of_rx rx) (rx := .rIdle) (view := .gap 0)
        (role := .nonClaimant) none none (fun _ => rfl) nofun nofun nofun rfl
    exact ⟨words, starting, .inl (Port.online_of_active active), transmit, abort, line, hold, ages, count⟩
  case resume =>
    refine ⟨words, starting, quiet.imp_right ?_, transmit, abort, line, hold, ages, count⟩
    rintro ⟨none, empty, idle, -, pending⟩
    exact ⟨none, empty, idle, rfl, pending⟩
  case hear bits follows => exact hearRecessive_sideOk whole bits
  case startBit follows => exact startBit_sideOk whole follows
  case advance point => exact advance_sideOk whole point
  case loseArbitration tx => exact loseArbitration_sideOk whole tx
  case retry view abort ends again =>
    have limit : q.words.retryLimit.toNat ≤ 15 := retryLimit_le words
    have full : q.slot ≠ .empty := by
      intro empty
      have online := ends.1
      simp [transmit.1.mp empty, TxState.onLine] at online
    exact whole.leaveLine ends (slot := q.slot) (tx := .tWaitIdle) (attempts := q.attempts + 1)
      ⟨fun empty => absurd empty full, nofun⟩ (fun empty => absurd empty full) (by omega) rfl
  case tick => exact tick_sideOk whole
  case fault cause present => exact setFault_sideOk whole cause present

end Sys2Proof.Machine
end

section
/-! SUPPORT. The ports' invariant through the rules by which frames move, through the WRITE of PORT words and the other
changes of state, and with the phase; with it the statement about ports. -/

open Sys2Proof

namespace Sys2Proof.Machine

/-! ## PORT words in range (R42, R43, R45) -/

theorem words_get_set (w : PortWords) {j k : Nat} (hj : j < 7) (hk : k < 7) (v : Word) :
    (w.set k v).get j = if j = k then v &&& portMask k else w.get j := by
  interval_cases k <;> interval_cases j <;> rfl

theorem words_set_of_seven_le (w : PortWords) {k : Nat} (h : 7 ≤ k) (v : Word) : w.set k v = w := by
  unfold PortWords.set
  split <;> first | omega | rfl

theorem field_eq_extractLsb' (w : Word) (low n : Nat) : field w low n = (w.extractLsb' low n).toNat := by
  simp [field, BitVec.extractLsb'_toNat, Nat.shiftRight_eq_div_pow]

/-- A field is a matter of its bits. -/
theorem field_congr {v w : Word} {low n : Nat} (bits : ∀ i < n, v.getLsbD (low + i) = w.getLsbD (low + i)) :
    field v low n = field w low n := by
  rw [field_eq_extractLsb', field_eq_extractLsb']
  congr 1
  apply BitVec.eq_of_getLsbD_eq
  intro i inside
  simp [inside, bits i inside]

/-- A mask that keeps a field's bits keeps the field. -/
theorem field_and_of_ones (v mask : Word) {low n : Nat} (ones : ∀ i < n, mask.getLsbD (low + i) = true) :
    field (v &&& mask) low n = field v low n :=
  field_congr fun i inside => by simp [ones i inside]

theorem and_ones (v : Word) : v &&& 0xFFFF = v := by
  have ones : (0xFFFF : Word) = BitVec.allOnes 16 := by decide
  rw [ones, BitVec.and_allOnes]

/-- A word in range is in range once its other bits are dropped (R43). -/
theorem portWordInRange_and_mask {k : Nat} (hk : k < 7) (v : Word) :
    portWordInRange k (v &&& portMask k) = portWordInRange k v := by
  interval_cases k
  · show (field (v &&& 0xB331) 8 2 != 3 && field (v &&& 0xB331) 4 2 != 3) = _
    rw [field_and_of_ones v _ (by decide), field_and_of_ones v _ (by decide)]
    rfl
  · show decide (field (v &&& 0x0FFF) 0 12 ≤ 255) = _
    rw [field_and_of_ones v _ (by decide)]
    rfl
  · show decide (field (v &&& 0x0FFF) 0 12 ≤ 255) = _
    rw [field_and_of_ones v _ (by decide)]
    rfl
  · show decide (field (v &&& 0x0FFF) 0 12 ≤ 15) = _
    rw [field_and_of_ones v _ (by decide)]
    rfl
  · show portWordInRange 4 (v &&& 0xFFFF) = _
    rw [and_ones]
  · show (decide (1 ≤ field (v &&& 0x0FFF) 0 12) && decide (field (v &&& 0x0FFF) 0 12 ≤ 255)) = _
    rw [field_and_of_ones v _ (by decide)]
    rfl
  · rfl

theorem and_mask_and_mask (v mask : Word) : v &&& mask &&& mask = v &&& mask := by
  rw [BitVec.and_assoc, BitVec.and_self]

/-- A word in range written leaves the words in range (R42, R43). -/
theorem words_set_inRange {w : PortWords} (h : w.InRange) {k : Nat} {v : Word} (range : portWordInRange k v = true) :
    (w.set k v).InRange := by
  intro j hj
  by_cases hk : k < 7
  · rw [words_get_set w hj hk]
    split
    · rename_i same
      subst same
      exact ⟨(portWordInRange_and_mask hj v).trans range, and_mask_and_mask v _⟩
    · exact h j hj
  · rw [words_set_of_seven_le w (by omega)]
    exact h j hj

theorem reset_inRange (p : PortId) : (PortWords.reset p).InRange := by
  cases p <;> decide

/-- A loaded word is in range, setting by setting (R45). -/
theorem loadedPortWord_inRange (p : PortId) (k : Nat) (v : Word) : portWordInRange k (loadedPortWord p k v) = true := by
  unfold loadedPortWord
  split
  · have kept : ∀ (x y : Word), field (v &&& 0xB001 ||| x &&& 0x0300 ||| y &&& 0x0030) 8 2 = field x 8 2 ∧
        field (v &&& 0xB001 ||| x &&& 0x0300 ||| y &&& 0x0030) 4 2 = field y 4 2 := by
      intro x y
      constructor
      · refine field_congr fun i inside => ?_
        interval_cases i <;> simp
      · refine field_congr fun i inside => ?_
        interval_cases i <;> simp
    have judged : ∀ low, low = 8 ∨ low = 4 →
        field (if field v low 2 = 3 then (PortWords.reset p).control else v) low 2 ≠ 3 := by
      rintro low (rfl | rfl) <;> split
      · cases p <;> decide
      · assumption
      · cases p <;> decide
      · assumption
    simp only [portWordInRange, Bool.and_eq_true, bne_iff_ne, kept]
    exact ⟨judged 8 (.inl rfl), judged 4 (.inr rfl)⟩
  · split
    · rename_i range
      by_cases hk : k < 7
      · rw [portWordInRange_and_mask hk, range]
      · unfold portWordInRange
        split <;> first | omega | rfl
    · by_cases hk : k < 7
      · exact (reset_inRange p k hk).1
      · unfold portWordInRange
        split <;> first | omega | rfl

theorem loadedPortWords_inRange (page : Page) (p : PortId) (base : Nat) : (loadedPortWords page p base).InRange :=
  foldl_induction (P := fun w : PortWords => w.InRange) _ (reset_inRange p) fun _ k _ before =>
    words_set_inRange before (loadedPortWord_inRange p k _)

/-! ## Ports that are to have given words and states -/

/-- The ports are consistent, with the words `W` and the states `S`, and STARTING exactly while the part does not run. -/
def PortsAre (W : PortId → PortWords) (S : PortId → PortState) (_ : Nat) (g : Gateway) : Prop :=
  (∀ p, (g.port p).SideOk ∧ (g.port p).words = W p ∧ (g.port p).state = S p) ∧
    ∀ p, S p = .starting ↔ g.phase ≠ .running

theorem Port.Moves.words_state {q r : Port} (moves : q.Moves r) : r.words = q.words ∧ r.state = q.state := by
  cases moves
  case prompt c =>
    rw [promptIf_eq]
    exact ⟨rfl, rfl⟩
  case ask =>
    unfold Port.pauseAsk
    repeat' split
    all_goals exact ⟨rfl, rfl⟩
  case load e r active empty head =>
    unfold Port.head at head
    split at head <;> cases head
    all_goals exact ⟨rfl, rfl⟩
  case takeRetest =>
    unfold Port.takeRetest
    split <;> exact ⟨rfl, rfl⟩
  case startBit =>
    unfold Port.startBit
    split <;> exact ⟨rfl, rfl⟩
  case advance point =>
    unfold Port.advance
    cases point <;> dsimp only <;> split <;> exact ⟨rfl, rfl⟩
  case fault cause present =>
    obtain ⟨_, _, _, -, same⟩ := setFault_eq q cause present
    rw [same]
    exact ⟨rfl, rfl⟩
  all_goals exact ⟨rfl, rfl⟩

section PortsAre

variable {W : PortId → PortWords} {S : PortId → PortState} {n m : Nat} {g t : Gateway}

theorem portsAre_of_same (ports : ∀ p, t.port p = g.port p) (phase : t.phase = g.phase) (h : PortsAre W S n g) :
    PortsAre W S m t :=
  ⟨fun p => by rw [ports p]; exact h.1 p, fun p => by rw [phase]; exact h.2 p⟩

theorem portsAre_of_allBut {l : List Part} (frame : AllBut l g t) (a : .portA ∉ l) (b : .portB ∉ l) (phase : .phase ∉ l)
    (h : PortsAre W S n g) : PortsAre W S m t :=
  portsAre_of_same (fun p => by cases p; exact frame .portA a; exact frame .portB b) (frame .phase phase) h

theorem setPort_phase (g : Gateway) (p : PortId) (q : Port) : (g.setPort p q).phase = g.phase := by cases p <;> rfl

/-- A port replaced by a consistent one with the same words and state. -/
theorem setPort_portsAre {p : PortId} {q : Port} (h : PortsAre W S n g) (side : q.SideOk)
    (words : q.words = (g.port p).words) (state : q.state = (g.port p).state) : PortsAre W S m (g.setPort p q) := by
  refine ⟨fun x => ?_, fun x => by rw [setPort_phase]; exact h.2 x⟩
  rcases PortId.eq_or_other p x with rfl | rfl
  · rw [Gateway.port_setPort_self]
    exact ⟨side, words.trans (h.1 x).2.1, state.trans (h.1 x).2.2⟩
  · rw [Gateway.port_setPort_other]
    exact h.1 p.other

theorem portsAre_flow (W : PortId → PortWords) (S : PortId → PortState) : BufferFlow (PortsAre W S) where
  aside frame h := portsAre_of_allBut frame (by decide) (by decide) (by decide) h
  moves {n g p q} moves h :=
    setPort_portsAre h (moves.sideOk (h.1 p).1) moves.words_state.1 moves.words_state.2
  take _ h := h
  give _ h := h
  enqueue {n g p} name b admits h := by
    refine setPort_portsAre (q := (g.port p).enqueue name b) h
      ((h.1 p).1.enqueue ((Port.admits_eq_true_iff _).mp admits).1 name b) ?_ ?_
    · cases name <;> rfl
    · cases name <;> rfl
  head {n g p e q} head h := by
    refine setPort_portsAre h ((h.1 p).1.head head) ?_ (head_state_slot head).1
    unfold Port.head at head
    split at head <;> cases head
    all_goals rfl
  finish {n g p view abort} ends h := by
    have emptied : ((g.port p).finished view abort).SideOk :=
      (h.1 p).1.leaveLine ends (slot := .empty) (tx := .tIdle) (attempts := 0) ⟨fun _ => rfl, fun _ => rfl⟩ (fun _ => rfl)
        (Nat.zero_le _) rfl
    exact setPort_portsAre (q := (g.port p).finished view abort) h emptied rfl rfl
  captured _ _ h := h
  released _ h := h
  requested _ _ _ h := h
  begins _ _ _ _ h := h
  executes _ _ h := h
  offers _ h := h
  replies _ _ h := ⟨h, h⟩
  stops _ _ _ h := ⟨fun _ => h, fun _ _ => ⟨h, h⟩⟩

end PortsAre

/-! ## Ports whose mode field names their state -/

/-- The mode field of the words names the state (R19). -/
def ModeFits (w : PortWords) (s : PortState) : Prop :=
  s ≠ .starting → w.modeOnline = (s = .linkDown || s = .active)

/-- The ports' invariant with the phase, but for the execution. -/
def PortsModal (_ : Nat) (g : Gateway) : Prop :=
  (∀ p, (g.port p).Ok) ∧ ∀ p, (g.port p).state = .starting ↔ g.phase ≠ .running

theorem portsModal_of_portsAre {W : PortId → PortWords} {S : PortId → PortState} {n m : Nat} {g : Gateway}
    (h : PortsAre W S n g) (modes : ∀ p, ModeFits (W p) (S p)) : PortsModal m g := by
  obtain ⟨ports, phase⟩ := h
  refine ⟨fun p => (Port.ok_iff _).mpr ⟨(ports p).1, ?_⟩, fun p => by rw [(ports p).2.2]; exact phase p⟩
  have mode := modes p
  rw [← (ports p).2.1, ← (ports p).2.2] at mode
  exact mode

theorem portsAre_of_portsModal {n : Nat} {g : Gateway} (h : PortsModal n g) (m : Nat) :
    PortsAre (fun p => (g.port p).words) (fun p => (g.port p).state) m g ∧
      ∀ p, ModeFits (g.port p).words (g.port p).state :=
  ⟨⟨fun p => ⟨((Port.ok_iff _).mp (h.1 p)).1, rfl, rfl⟩, h.2⟩, fun p => ((Port.ok_iff _).mp (h.1 p)).2⟩

/-- What keeps the ports with any words and states keeps them with those that fit. -/
theorem portsModal_lift {n m : Nat} {g t : Gateway} (keeps : ∀ W S, PortsAre W S n g → PortsAre W S m t)
    (h : PortsModal n g) : PortsModal m t := by
  obtain ⟨are, modes⟩ := portsAre_of_portsModal h n
  exact portsModal_of_portsAre (keeps _ _ are) modes

theorem portsModal_flow : BufferFlow PortsModal where
  aside frame := portsModal_lift fun W S => (portsAre_flow W S).aside frame
  moves moves := portsModal_lift fun W S => (portsAre_flow W S).moves moves
  take _ h := h
  give _ h := h
  enqueue name b admits := portsModal_lift fun W S => (portsAre_flow W S).enqueue name b admits
  head head := portsModal_lift fun W S => (portsAre_flow W S).head head
  finish ends := portsModal_lift fun W S => (portsAre_flow W S).finish ends
  captured _ _ h := h
  released _ h := h
  requested _ _ _ h := h
  begins _ _ _ _ h := h
  executes _ _ h := h
  offers _ h := h
  replies _ _ h := ⟨h, h⟩
  stops _ _ _ h := ⟨fun _ => h, fun _ _ => ⟨h, h⟩⟩

/-! ## Leaving ACTIVE, going OFFLINE and coming back (R20 to R22, R28, R35) -/

theorem endClaim_free (q : Port) : q.endClaim.isHolding = false := by
  unfold Port.endClaim
  split
  · rename_i role
    simp [Port.isHolding, role]
  · rfl
  · rfl

theorem endClaim_sideOk {q : Port} (h : q.SideOk) : q.endClaim.SideOk := by
  obtain ⟨words, starting, quiet, transmit, abort, line, hold, ages, count⟩ := h
  unfold Port.endClaim
  split
  · exact ⟨words, starting, quiet, transmit, abort, line, hold, ages, count⟩
  · exact ⟨words, starting, quiet, transmit, abort, line, nofun, ages, count⟩
  · exact ⟨words, starting, quiet, transmit, abort, line, nofun, ages, count⟩

theorem stopSending_offLine (q : Port) : q.stopSending.tx.onLine = false := by
  unfold Port.stopSending
  split
  · rfl
  · simp_all

theorem stopSending_sideOk {q : Port} (h : q.SideOk) : q.stopSending.SideOk := by
  unfold Port.stopSending
  split
  · rename_i online
    have full : q.slot ≠ .empty := by
      intro empty
      simp [h.transmit.1.mp empty, TxState.onLine] at online
    have left := h.leaveLine (view := .resync 0) (abort := q.abort) ⟨online, .inr ⟨rfl, .inl rfl⟩⟩ (slot := q.slot)
      (tx := .tWaitIdle) (attempts := q.attempts) ⟨fun empty => absurd empty full, nofun⟩
      (fun empty => absurd empty full) h.transmit.2.2.1 rfl
    rw [h.line.1 online] at left
    exact left
  · exact h

theorem stopSending_isHolding (q : Port) : q.stopSending.isHolding = q.isHolding := by
  unfold Port.stopSending
  split <;> rfl

theorem endClaim_tx (q : Port) : q.endClaim.tx = q.tx := by
  unfold Port.endClaim
  split <;> rfl

/-- A port that neither claims nor sends leaves ACTIVE with nothing on the line (R20). -/
theorem leaveActive_sideOk {q : Port} (h : q.SideOk) (off : q.tx.onLine = false) (free : q.isHolding = false)
    {state : PortState} (linkUp : Bool) (linkDue : Bool) (follows : state ≠ .starting)
    (quiet : ({ q with state := state } : Port).QuietWhenOut) :
    ({ q with state := state, abort := [], linkUp := linkUp, linkDue := linkDue } : Port).SideOk := by
  obtain ⟨words, starting, -, ⟨idle, fresh, few, sends, -⟩, -, line, -, ages, count⟩ := h
  exact ⟨words, fun start => absurd start follows, quiet,
    ⟨idle, fresh, few, sends, fun online => by simp [off] at online⟩, fun drives => absurd rfl drives, line,
    fun holds => absurd holds (by simpa [Port.isHolding] using free), ages, count⟩

theorem raiseLink_ok {q : Port} (h : q.Ok) (follows : q.state ≠ .starting) : q.raiseLink.Ok := by
  obtain ⟨side, mode⟩ := (Port.ok_iff q).mp h
  by_cases down : q.state = .linkDown
  · have raised : q.raiseLink = { q with linkUp := true, linkDue := false, state := .active } := by
      simp [Port.raiseLink, down]
    have still := side.abort_nil_of_state (by simp [down])
    have free := side.free_of_state (by simp [down])
    obtain ⟨words, starting, quiet, ⟨idle, fresh, few, sends, active⟩, -, line, -, ages, count⟩ := side
    have same := mode follows
    rw [raised, Port.ok_iff]
    refine ⟨⟨words, nofun, .inl rfl, ⟨idle, fresh, few, sends, fun _ => rfl⟩, fun drives => absurd still drives, line,
      fun holds => absurd holds (by simpa [Port.isHolding] using free), ages, count⟩, fun _ => ?_⟩
    simpa [Port.online, down] using same
  · have raised : q.raiseLink = { q with linkUp := true, linkDue := false } := by simp [Port.raiseLink, down]
    obtain ⟨words, starting, quiet, transmit, abort, line, hold, ages, count⟩ := side
    rw [raised, Port.ok_iff]
    exact ⟨⟨words, fun start => absurd start follows, quiet, transmit, abort, line, hold, ages, count⟩, mode⟩

theorem endClaim_frame (q : Port) : q.endClaim.words = q.words ∧ q.endClaim.state = q.state := by
  unfold Port.endClaim
  split <;> exact ⟨rfl, rfl⟩

theorem stopSending_frame (q : Port) : q.stopSending.words = q.words ∧ q.stopSending.state = q.state := by
  unfold Port.stopSending
  split <;> exact ⟨rfl, rfl⟩

theorem dropLink_ok {q : Port} (h : q.Ok) (follows : q.state ≠ .starting) : q.dropLink.Ok := by
  obtain ⟨side, mode⟩ := (Port.ok_iff q).mp h
  obtain ⟨words, starting, quiet, transmit, abort, line, hold, ages, count⟩ := side
  have down : ({ q with linkUp := false, linkDue := false } : Port).SideOk :=
    ⟨words, fun start => absurd start follows, quiet, transmit, abort, line, hold, ages, count⟩
  unfold Port.dropLink
  dsimp only
  split
  · rename_i active
    rw [Port.ok_iff]
    let t : Port := (Port.endClaim { q with linkUp := false, linkDue := false }).stopSending
    have free : t.isHolding = false := (stopSending_isHolding _).trans (endClaim_free _)
    have words : t.words = q.words := (stopSending_frame _).1.trans (endClaim_frame _).1
    refine ⟨leaveActive_sideOk (stopSending_sideOk (endClaim_sideOk down)) (stopSending_offLine _) free t.linkUp t.linkDue
      nofun (.inl rfl), fun _ => ?_⟩
    have online : q.words.modeOnline = true := by simpa [Port.online, show q.state = .active from active] using mode follows
    show t.words.modeOnline = true
    rw [words, online]
  · exact (Port.ok_iff _).mpr ⟨down, mode⟩

/-- What a port taken OFFLINE is left with is consistent (R20, R21, R63). -/
theorem flushed_sideOk {q : Port} (h : q.SideOk) : q.flushed.SideOk := by
  have stopped := endClaim_sideOk (stopSending_sideOk h)
  have off : q.stopSending.endClaim.tx.onLine = false := by rw [endClaim_tx, stopSending_offLine]
  have free := endClaim_free q.stopSending
  unfold Port.flushed
  generalize q.stopSending.endClaim = r at stopped off free
  obtain ⟨words, starting, quiet, transmit, abort, ⟨-, frames, slots, -, -, reads⟩, hold, ages, count⟩ := stopped
  refine ⟨words, nofun, .inr ⟨rfl, rfl, rfl, rfl, rfl⟩, ⟨⟨fun _ => rfl, fun _ => rfl⟩, fun _ => rfl, Nat.zero_le _,
    ⟨nofun, nofun⟩, nofun⟩, fun drives => absurd rfl drives, ⟨nofun, frames, slots, ?_, nofun, fun view => .inr ?_⟩,
    fun holds => absurd holds (by simpa [Port.isHolding, Port.emptySlot] using free), nofun, count⟩
  · rintro (tx | tx) <;> cases tx
  · rcases reads view with online | rx
    · simp [off] at online
    · exact rx

theorem flushed_frame (q : Port) : q.flushed.words = q.words ∧ q.flushed.state = .offline := by
  refine ⟨?_, rfl⟩
  exact (endClaim_frame q.stopSending).1.trans (stopSending_frame q).1

/-- A new rate resynchronises a port that neither sends nor receives for itself (R22). -/
theorem changeRate_sideOk {q : Port} (h : q.SideOk) (offline : q.state = .offline) : q.changeRate.SideOk := by
  have off : q.tx.onLine = false := by
    by_contra online
    have active := h.transmit.2.2.2.2 (by simpa using online)
    simp [offline] at active
  exact setFault_sideOk (h.receive off (h.abort_nil_of_state (by simp [offline])) (rx := .rIdle) (view := .resync 0)
    (role := .nonClaimant) none none (fun _ => rfl) nofun nofun nofun rfl) _ _

theorem changeRate_frame (q : Port) : q.changeRate.words = q.words ∧ q.changeRate.state = q.state := by
  unfold Port.changeRate
  obtain ⟨_, _, _, -, same⟩ := setFault_eq
    { q with view := .resync 0, rx := .rIdle, role := .nonClaimant, staging := none, record := none } .stuckDominant false
  rw [same]
  exact ⟨rfl, rfl⟩

/-- An OFFLINE port taken ONLINE has nothing on the line (R22). -/
theorem online_sideOk {q : Port} (h : q.SideOk) (offline : q.state = .offline) :
    ({ q with state := if q.linkUp then .active else .linkDown } : Port).SideOk := by
  have off : q.tx.onLine = false := by
    by_contra online
    have active := h.transmit.2.2.2.2 (by simpa using online)
    simp [offline] at active
  have still := h.abort_nil_of_state (by simp [offline])
  have free := h.free_of_state (by simp [offline])
  have left := leaveActive_sideOk h off free (state := if q.linkUp then .active else .linkDown) q.linkUp q.linkDue
    (by split <;> simp) (.inl (by unfold Port.online; dsimp only; split <;> rfl))
  rw [← still] at left
  exact left

/-! ## The WRITE of PORT words (R43, R129, R130) -/

/-- The state of one port replaced. -/
def withState (S : PortId → PortState) (p : PortId) (s : PortState) : PortId → PortState :=
  fun x => if x = p then s else S x

theorem setPort_portsAre_state {W : PortId → PortWords} {S : PortId → PortState} {n m : Nat} {g : Gateway} {p : PortId}
    {q : Port} (h : PortsAre W S n g) (side : q.SideOk) (words : q.words = W p) (follows : S p ≠ .starting)
    (still : q.state ≠ .starting) : PortsAre W (withState S p q.state) m (g.setPort p q) := by
  refine ⟨fun x => ?_, fun x => ?_⟩
  · rcases PortId.eq_or_other p x with rfl | rfl
    · rw [Gateway.port_setPort_self]
      exact ⟨side, words, by simp [withState]⟩
    · rw [Gateway.port_setPort_other]
      simpa [withState] using h.1 p.other
  · rw [setPort_phase, ← h.2 x]
    unfold withState
    split
    · rename_i same
      subst same
      simp [follows, still]
    · rfl

/-- What a WRITE does to a port brings its state in step with its mode field (R19, R21, R22). -/
theorem portWritten_portsAre {W : PortId → PortWords} {S : PortId → PortState} {g : Gateway} {p : PortId} {old : Port}
    (h : PortsAre W S 0 g) (state : old.state = S p)
    (rate : S p ≠ .offline → rateCode (W p).control = rateCode old.words.control) :
    ∃ s, PortsAre W (withState S p s) 0 (g.portWritten p old) ∧ ModeFits (W p) s := by
  let t := if rateCode (g.port p).words.control ≠ rateCode old.words.control then g.modPort p Port.changeRate else g
  have rated : PortsAre W S 0 t := by
    show PortsAre W S 0 (if _ then _ else _)
    split
    · rename_i changed
      have offline : (g.port p).state = .offline := by
        by_contra other
        rw [(h.1 p).2.2] at other
        rw [(h.1 p).2.1] at changed
        exact changed (rate other)
      exact setPort_portsAre h (changeRate_sideOk (h.1 p).1 offline) (changeRate_frame _).1 (changeRate_frame _).2
    · exact h
  have written : g.portWritten p old =
      if old.state = .offline ∧ (t.port p).words.modeOnline then t.goOnline p
      else if old.online ∧ ¬ (t.port p).words.modeOnline then t.goOffline p else t := rfl
  rw [written, (rated.1 p).2.1, state]
  split
  · rename_i on
    obtain ⟨offline, mode⟩ := on
    refine ⟨_, (portsAre_flow W _).goOnline (setPort_portsAre_state rated
      (online_sideOk (rated.1 p).1 ((rated.1 p).2.2.trans offline)) (rated.1 p).2.1 (by simp [offline]) ?_), fun _ => ?_⟩
    · dsimp only
      split <;> simp
    · rw [mode]
      dsimp only
      split <;> rfl
  · rename_i notOn
    split
    · rename_i out
      obtain ⟨online, mode⟩ := out
      rw [goOffline_eq]
      refine ⟨_, (portsAre_flow W _).afterFlush p _ (setPort_portsAre_state rated (flushed_sideOk (rated.1 p).1)
        ((flushed_frame _).1.trans (rated.1 p).2.1) ?_ (by simp [flushed_frame])), fun _ => ?_⟩
      · rw [← state]
        exact Port.not_starting_of_online online
      · rw [(flushed_frame _).2]
        simpa using mode
    · rename_i notOut
      have same : withState S p (S p) = S := funext fun x => by
        unfold withState
        split
        · rename_i here
          rw [here]
        · rfl
      refine ⟨S p, by rwa [same], fun follows => ?_⟩
      cases mode : (W p).modeOnline <;> cases now : S p <;>
        simp_all [Port.online]

theorem words_sideOk {q : Port} (h : q.SideOk) {w : PortWords} (range : w.InRange) :
    ({ q with words := w } : Port).SideOk := by
  obtain ⟨-, starting, quiet, transmit, abort, line, hold, ages, count⟩ := h
  exact ⟨range, starting, quiet, transmit, abort, line, hold, ages, count⟩

/-- A word written changes the rate code only where word 0 carries another one (R43). -/
theorem rateCode_set (w : PortWords) (k : Nat) (v : Word) :
    rateCode (w.set k v).control = if k = 0 then rateCode v else rateCode w.control := by
  unfold PortWords.set
  dsimp only
  split
  · exact field_and_of_ones v 0xB331 (by decide)
  all_goals first | rfl | exact (if_neg ‹_›).symm

/-- What a port keeps while the words of a WRITE are stored: it stays consistent, its state stands, and so does its rate
unless it is OFFLINE. -/
structure Port.Stores (q r : Port) : Prop where
  side : r.SideOk
  state : r.state = q.state
  rate : q.state ≠ .offline → rateCode r.words.control = rateCode q.words.control

theorem writePortWord_stores {g t : Gateway} {iw : Nat × Word} (h : ∀ p, (g.port p).Stores (t.port p))
    (open_ : g.protectedTarget .port iw.1 iw.2 = false) (inRange : targetInRange .port iw.1 iw.2 = true) (p : PortId) :
    (g.port p).Stores ((t.writePortWord iw).port p) := by
  rcases PortId.eq_or_other (portOfIndex iw.1) p with rfl | rfl
  · obtain ⟨side, state, rate⟩ := h (portOfIndex iw.1)
    unfold Gateway.writePortWord
    rw [Gateway.port_modPort_self]
    refine ⟨words_sideOk side (words_set_inRange side.words inRange), state, fun other => ?_⟩
    dsimp only
    rw [rateCode_set, ← rate other]
    split
    · rename_i first
      simpa [Gateway.protectedTarget, first, other, rate other] using open_
    · rfl
  · unfold Gateway.writePortWord
    rw [Gateway.port_modPort_other]
    exact h _

theorem foldl_writePortWord_stores {g : Gateway} (h : PortsModal 0 g) (targets : List (Nat × Word))
    (open_ : ∀ iw ∈ targets, g.protectedTarget .port iw.1 iw.2 = false)
    (inRange : ∀ iw ∈ targets, targetInRange .port iw.1 iw.2 = true) (p : PortId) :
    (g.port p).Stores ((targets.foldl Gateway.writePortWord g).port p) := by
  revert p
  refine foldl_induction (P := fun t : Gateway => ∀ p, (g.port p).Stores (t.port p)) targets
    (fun p => ⟨((Port.ok_iff _).mp (h.1 p)).1, rfl, fun _ => rfl⟩) fun t iw inside before =>
      writePortWord_stores before (open_ iw inside) (inRange iw inside)

theorem foldl_writePortWord_phase (targets : List (Nat × Word)) (g : Gateway) :
    (targets.foldl Gateway.writePortWord g).phase = g.phase :=
  foldl_allBut (l := [.portA, .portB]) (fun h iw => modPort_allBut_ports h _ _) targets g .phase (by decide)

theorem writePort_portsModal {g : Gateway} (h : PortsModal 0 g) (targets : List (Nat × Word))
    (open_ : ∀ iw ∈ targets, g.protectedTarget .port iw.1 iw.2 = false)
    (inRange : ∀ iw ∈ targets, targetInRange .port iw.1 iw.2 = true) : PortsModal 0 (g.writePort targets) := by
  have stores := foldl_writePortWord_stores h targets open_ inRange
  have phase := foldl_writePortWord_phase targets g
  unfold Gateway.writePort
  generalize targets.foldl Gateway.writePortWord g = t at stores phase
  have are : PortsAre (fun p => (t.port p).words) (fun p => (g.port p).state) 0 t :=
    ⟨fun p => ⟨(stores p).side, rfl, (stores p).state⟩, fun p => by rw [phase]; exact h.2 p⟩
  obtain ⟨a, first, fitsA⟩ := portWritten_portsAre (p := .a) (old := g.portA) are rfl (stores .a).rate
  obtain ⟨b, second, fitsB⟩ := portWritten_portsAre (p := .b) (old := g.portB) first rfl (stores .b).rate
  refine portsModal_of_portsAre second fun p => ?_
  cases p
  · exact fitsA
  · exact fitsB

/-! ## Resets and the Boot Load (R23, R45, R165) -/

theorem afterReset_ok (q : Port) (p : PortId) : (q.afterReset p).Ok :=
  ⟨reset_inRange p, fun _ => ⟨rfl, rfl⟩, fun follows => absurd rfl follows, .inr ⟨rfl, rfl, rfl, rfl, rfl⟩,
    ⟨⟨fun _ => rfl, fun _ => rfl⟩, fun _ => rfl, Nat.zero_le _, ⟨nofun, nofun⟩, nofun⟩, fun drives => absurd rfl drives,
    ⟨nofun, nofun, nofun, (by rintro (tx | tx) <;> cases tx), nofun, (by rintro (view | view) <;> cases view)⟩, nofun,
    nofun,
    Nat.zero_le _⟩

/-- A port leaves STARTING in the state its mode field names, its link down (R165). -/
theorem leaveStarting_ok {q : Port} (h : q.Ok) (starting : q.state = .starting) : q.leaveStarting.Ok := by
  obtain ⟨side, -⟩ := (Port.ok_iff q).mp h
  have rx := (side.starting starting).1
  have still := side.abort_nil_of_state (by simp [starting])
  have free := side.free_of_state (by simp [starting])
  obtain ⟨words, -, quiet, ⟨idle, fresh, few, sends, active⟩, -, -, -, ages, -⟩ := side
  have off : q.tx.onLine = false := by
    by_contra online
    have now := active (by simpa using online)
    simp [starting] at now
  have out : q.online = false := by simp [Port.online, starting]
  have empty := quiet.resolve_left (by simp [out])
  rw [Port.ok_iff]
  refine ⟨⟨words, ?_, .inr empty, ⟨idle, fresh, few, sends, fun online => by simp [Port.leaveStarting, off] at online⟩,
    fun drives => absurd still drives, ⟨fun _ => rx, fun now => ?_, fun now => ?_, ?_, fun tx => ?_, ?_⟩,
    fun holds => absurd holds (by simpa [Port.isHolding, Port.leaveStarting] using free), ages, Nat.zero_le _⟩, ?_⟩
  · exact fun _ => ⟨rx, rfl⟩
  · exact absurd (rx.symm.trans now) nofun
  · exact absurd (rx.symm.trans now) nofun
  · rintro (tx | tx)
    · exact absurd (show q.tx = .tArb from tx) (by intro now; simp [now, TxState.onLine] at off)
    · exact absurd (show q.tx = .tSend from tx) (by intro now; simp [now, TxState.onLine] at off)
  · exact absurd (show q.tx = .tSlot from tx) (by intro now; simp [now, TxState.onLine] at off)
  · rintro (view | view) <;> cases view
  · intro _
    unfold Port.leaveStarting Port.online
    dsimp only
    cases q.words.modeOnline <;> rfl

theorem modPort_portsModal {g : Gateway} (p : PortId) {f : Port → Port} (h : PortsModal 0 g)
    (ok : (f (g.port p)).Ok) (state : (f (g.port p)).state = .starting ↔ (g.port p).state = .starting) :
    PortsModal 0 (g.modPort p f) := by
  refine ⟨fun x => ?_, fun x => ?_⟩
  · rcases PortId.eq_or_other p x with rfl | rfl
    · rwa [Gateway.port_modPort_self]
    · rw [Gateway.port_modPort_other]
      exact h.1 _
  · rw [show (g.modPort p f).phase = g.phase from setPort_phase g p _, ← h.2 x]
    rcases PortId.eq_or_other p x with rfl | rfl
    · rwa [Gateway.port_modPort_self]
    · rw [Gateway.port_modPort_other]

/-- PORT words loaded into a STARTING port: no mode field is claimed yet (R45). -/
theorem loadWords_ok {q : Port} (h : q.Ok) (starting : q.state = .starting) {w : PortWords} (range : w.InRange) :
    ({ q with words := w } : Port).Ok :=
  (Port.ok_iff _).mpr ⟨words_sideOk ((Port.ok_iff q).mp h).1 range, fun follows => absurd starting follows⟩

theorem loadBoth_portsModal {g : Gateway} (h : PortsModal 0 g) (out : g.phase ≠ .running) {v w : PortWords}
    (a : v.InRange) (b : w.InRange) :
    PortsModal 0 ((g.modPort .a fun q => { q with words := v }).modPort .b fun q => { q with words := w }) :=
  have first := modPort_portsModal .a (f := fun q => { q with words := v }) h
    (loadWords_ok (h.1 .a) ((h.2 .a).mpr out) a) Iff.rfl
  modPort_portsModal .b (f := fun q => { q with words := w }) first (loadWords_ok (h.1 .b) ((h.2 .b).mpr out) b) Iff.rfl

theorem portsModal_commands : CommandFlow PortsModal where
  toBufferFlow := portsModal_flow
  raiseLink {g p} follows h := by
    have running : (g.port p).state ≠ .starting := by simpa [Port.follows] using follows
    refine modPort_portsModal p h (raiseLink_ok (h.1 p) running) ?_
    unfold Port.raiseLink
    dsimp only
    split
    · simp_all
    · rfl
  dropLink {g p} follows h := by
    have running : (g.port p).state ≠ .starting := by simpa [Port.follows] using follows
    refine modPort_portsModal p h (dropLink_ok (h.1 p) running) ?_
    unfold Port.dropLink
    dsimp only
    split
    · simp [running]
    · rfl
  writePort {g targets} open_ inRange h := writePort_portsModal h targets open_ inRange
  reset cause h := ⟨fun p => by cases p <;> exact afterReset_ok _ _, fun p => by cases p <;> exact ⟨nofun, fun _ => rfl⟩⟩
  load {g} n out h := ⟨h.1, fun p => ⟨fun _ => nofun, fun _ => (h.2 p).mpr out⟩⟩
  loadPort {g} page out h := by
    unfold Gateway.loadPort
    split
    · exact loadBoth_portsModal h out (reset_inRange .a) (reset_inRange .b)
    · exact loadBoth_portsModal h out (loadedPortWords_inRange page .a 0) (loadedPortWords_inRange page .b 8)
  started {g} out h := by
    have left : ∀ p, g.started.port p = (g.port p).leaveStarting := fun p => by cases p <;> rfl
    refine ⟨fun p => ?_, fun p => ?_⟩
    · rw [left]
      exact leaveStarting_ok (h.1 p) ((h.2 p).mpr out)
    · rw [left]
      refine ⟨fun start => ?_, fun off => absurd rfl off⟩
      simp only [Port.leaveStarting] at start
      split at start <;> cases start

/-! ## Only a running part executes (R119, R146) -/

/-- A part that does not run executes nothing. -/
def ExecutesRunning (g : Gateway) : Prop :=
  g.phase ≠ .running → g.exec = none

theorem receiveCompletion_of_starting {g : Gateway} {p : PortId} (starting : (g.port p).state = .starting)
    (bytes : List Byte) (check : Word) : g.receiveCompletion p bytes check = g := by
  simp [Gateway.receiveCompletion, Port.receiving, Port.follows, starting]

theorem holdRetest_of_free {g : Gateway} {p : PortId} (free : (g.port p).isHolding = false) : g.holdRetest p = g := by
  unfold Gateway.holdRetest
  split
  · rename_i role _ _
    simp [Port.isHolding, role] at free
  · rfl

/-- The commands by which an execution can begin do nothing where ports are STARTING. -/
theorem effect_exec_of_starting {c : Instr} {g : Gateway} (h : PortsModal 0 g) (out : g.phase ≠ .running)
    (idle : g.exec = none) : (effect c g).exec = none := by
  have starting := fun p => (h.2 p).mpr out
  cases operation : runsOperation c
  case true =>
    have step := effect_operationStep c g operation
    generalize effect c g = t at step ⊢
    cases step with
    | idle => exact idle
    | body op k ex runs => exact absurd (idle.symm.trans runs.1) nofun
    | restart ex runs access idleStore => exact absurd (idle.symm.trans runs.1) nofun
  case false =>
    by_cases quiet : .exec ∉ touches c
    · have same : (effect c g).exec = g.exec := effect_allBut c g operation .exec quiet
      rw [same, idle]
    · cases c <;> first
        | (cases operation; done)
        | (simp [touches, endParts, latchParts] at quiet; done)
        | skip
      case powerOnReset => rfl
      case lineReset => rfl
      case requestReset =>
        simp only [effect, Gateway.requestReset]
        split
        · rfl
        · exact idle
      case requestDecode =>
        simp only [effect, Gateway.requestDecode, idle]
      case receiveCompletion p bytes check =>
        simp only [effect]
        rw [receiveCompletion_of_starting (starting p), idle]
      case holdRetest p =>
        simp only [effect]
        have free := ((Port.ok_iff _).mp (h.1 p)).1.free_of_state (by simp [starting p])
        rw [holdRetest_of_free free, idle]

/-- A running part stops running by a reset alone, which ends any execution (R159). -/
theorem effect_phase_of_running {c : Instr} {g : Gateway} (running : g.phase = .running) :
    (effect c g).phase = .running ∨ (effect c g).exec = none := by
  cases operation : runsOperation c
  case true =>
    left
    rcases (effect_operationStep c g operation).same_or_body (x := .phase) (by decide) with same | ⟨op, -, -, -, own, -⟩
    · exact Eq.trans same running
    · cases op <;> simp [Op.changes] at own
  case false =>
    by_cases quiet : .phase ∉ touches c
    · have same : (effect c g).phase = g.phase := effect_allBut c g operation .phase quiet
      exact .inl (same.trans running)
    · cases c <;> first
        | (cases operation; done)
        | (simp [touches, endParts, replyParts, decisionParts] at quiet; done)
        | skip
      case powerOnReset => exact .inr rfl
      case lineReset => exact .inr rfl
      case requestReset =>
        simp only [effect, Gateway.requestReset]
        split
        · exact .inr rfl
        · exact .inl running
      case resetRelease =>
        simp only [effect, Gateway.resetRelease, running]
        exact .inl running
      case bootPageLoad =>
        simp only [effect, Gateway.bootPageLoad, running]
        exact .inl trivial
      case bootLoadEnd =>
        simp only [effect, Gateway.bootLoadEnd, running]
        exact .inl trivial

theorem portsOk_iff (g : Gateway) : g.PortsOk ↔ PortsModal 0 g ∧ ExecutesRunning g := by
  constructor
  · rintro ⟨⟨phaseA, phaseB, idles⟩, a, b⟩
    exact ⟨⟨fun p => by cases p <;> assumption, fun p => by cases p <;> assumption⟩, idles⟩
  · rintro ⟨⟨ports, phase⟩, idles⟩
    exact ⟨⟨phase .a, phase .b, idles⟩, ports .a, ports .b⟩

theorem effect_executesRunning {c : Instr} {g : Gateway} (h : PortsModal 0 g) (idles : ExecutesRunning g) :
    ExecutesRunning (effect c g) := by
  intro out
  by_cases running : g.phase = .running
  · exact (effect_phase_of_running running).resolve_left out
  · exact effect_exec_of_starting h running (idles running)

/-- Settles O55: every change of a port is one of those the rules name, or a change of its state by its link, its mode
or the Boot Load, and each keeps what holds of a port; an execution begins on a running part alone. -/
theorem portsKept : Obligations.PortsKept :=
  kept_of_effect fun c g h => by
    obtain ⟨ports, idles⟩ := (portsOk_iff g).mp h
    exact (portsOk_iff _).mpr ⟨portsModal_commands.effect_keeps c ports, effect_executesRunning ports idles⟩

end Sys2Proof.Machine
end

section
/-! SUPPORT. The queue of commands, the resets and what they leave (R23, R64, R116, R143, R146, R159 to R161, R167, R169,
R185, R186). -/

open Sys2Proof

namespace Sys2Proof.Machine

/-- Settles O1, by the definition of a step. -/
theorem frontCommandRuns : Obligations.FrontCommandRuns :=
  fun _ _ _ => ⟨rfl, rfl⟩

/-! ## The state right after reset -/

theorem reset_meter {k : Nat} (h : k < 16) : Gateway.reset.meter k = Meter.reset :=
  List.getD_replicate _ h

theorem manufactured_pageAt {n : Nat} (h : n < 64) (other : 1 ≤ n) :
    Store.manufactured.pageAt n = ⟨.erased, List.replicate 16 0⟩ := by
  obtain ⟨m, rfl⟩ : ∃ m, n = m + 1 := ⟨n - 1, by omega⟩
  exact List.getD_replicate (n := 63) _ (by omega)

/-- Settles O2, by the values of the state right after reset, table by table. -/
theorem resetLeavesStatedValues : Obligations.ResetLeavesStatedValues := by
  refine ⟨rfl, rfl, rfl, rfl, rfl, rfl, rfl, rfl, fun i h => List.getD_replicate _ h, List.length_replicate ..,
    fun i h => List.getD_replicate _ h, fun i h => List.getD_replicate _ h, fun k h => ?_, by decide, by decide,
    by decide, fun p => ?_, rfl, rfl, rfl, rfl, rfl, rfl, rfl, rfl, rfl, rfl, fun n h other => ?_⟩
  · rw [show State.reset.gw.meter k = Meter.reset from reset_meter h]
    exact ⟨rfl, rfl, rfl, rfl⟩
  · cases p <;> exact ⟨rfl, rfl, rfl, rfl, rfl, rfl, rfl, rfl, rfl, rfl, rfl, rfl⟩
  · rw [show State.reset.gw.store.pageAt n = _ from manufactured_pageAt h other]

theorem reset_sized : Store.manufactured.Sized := by
  refine ⟨congrArg (· + 1) (List.length_replicate (n := 63) (a := (⟨.erased, List.replicate 16 0⟩ : Page))), fun page inside => ?_,
    clearBuffer_length, Nat.zero_lt_succ 63, Nat.zero_lt_succ 15, noRecord_page⟩
  rcases List.mem_cons.mp inside with rfl | erased
  · rfl
  · rw [List.eq_of_mem_replicate erased]
    exact List.length_replicate ..

/-- The route table right after reset holds no valid entry. -/
theorem reset_routeOk : Gateway.reset.RouteOk :=
  routeOk_of_loading (List.length_replicate (n := 768) (a := (0 : Word))) nofun

/-- Settles O59, by what each invariant asks of the values right after reset. -/
theorem invariantsHoldAtReset : Obligations.InvariantsHoldAtReset := by
  have ports : ∀ p, (Port.reset p).Ok := fun p => afterReset_ok (Port.reset p) p
  have phase : Gateway.reset.PhaseOk := ⟨⟨nofun, fun _ => rfl⟩, ⟨nofun, fun _ => rfl⟩, fun _ => rfl⟩
  have tables : Gateway.reset.TablesOk := by
    obtain ⟨group, window, mark⟩ := reset_windowOk
    exact ⟨group, List.length_replicate (n := 48) (a := (0 : Word)), window, mark⟩
  refine ⟨⟨rfl, by decide, by decide, by decide, by decide⟩, rfl, by decide, by decide, ⟨phase, ports .a, ports .b⟩, rfl,
    ⟨Store.ok_of_idle reset_sized rfl, nofun, fun _ => rfl⟩, reset_metersOk, reset_routeOk, tables, ?_⟩
  exact ⟨Port.settled_of_inactive nofun, Port.settled_of_inactive nofun⟩

/-! ## Resets (R143, R159 to R161) -/

/-- A reset leaves its ports with the settings and states of a reset (R23). -/
theorem afterReset_values (q : Port) (p : PortId) :
    (q.afterReset p).state = .starting ∧ (q.afterReset p).view = .resync 0 ∧ (q.afterReset p).rx = .rIdle ∧
      (q.afterReset p).staging = none ∧ (q.afterReset p).slot = .empty ∧ (q.afterReset p).attempts = 0 ∧
      (q.afterReset p).pendingPause = false ∧ (q.afterReset p).pause = .running ∧ (q.afterReset p).urgent = [] ∧
      (q.afterReset p).normal = [] ∧ (q.afterReset p).linkUp = false ∧ (q.afterReset p).linkCount = 0 ∧
      (q.afterReset p).words = PortWords.reset p :=
  ⟨rfl, rfl, rfl, rfl, rfl, rfl, rfl, rfl, rfl, rfl, rfl, rfl, rfl⟩

/-- A reset leaves the tables at their reset values (R23, R64, R116, R167, R169). -/
theorem resetBy_allBut (g : Gateway) (cause : StartCause) :
    AllBut [.phase, .startCause, .portA, .portB, .store] State.reset.gw (g.resetBy cause) := by
  intro x hx
  cases x <;> first | rfl | exact ⟨rfl, rfl⟩ | (exfalso; revert hx; decide)

/-- Settles O3, by what a reset leaves of ports, tables and store. -/
theorem resetsClearThePart : Obligations.ResetsClearThePart := by
  intro s byLine
  have taken : exec (if byLine then .lineReset else .powerOnReset) s =
      .next ⟨s.pending, s.gw.resetBy (if byLine then .line else .power)⟩ := by
    cases byLine <;> rfl
  refine ⟨_, taken, rfl, rfl, rfl, fun p => ?_, rfl, rfl, rfl, rfl, rfl, rfl, rfl, resetBy_allBut _ _, rfl, rfl, rfl, rfl,
    rfl, rfl, fun w h => List.getD_replicate (n := 16) _ h⟩
  cases p
  · exact afterReset_values _ .a
  · exact afterReset_values _ .b

theorem beginLoad_allBut (g : Gateway) : AllBut [.phase, .store] g g.beginLoad :=
  .of_same fun x => by cases x <;> simp [Part.Same, Gateway.beginLoad]

/-- Settles O4, by what a reset that is not held leaves, and by what the command does while none is due. -/
theorem requestResetNeedsDueRestart : Obligations.RequestResetNeedsDueRestart := by
  intro s
  refine exec_of_effect (c := .requestReset) ⟨rfl, fun due => ?_, fun other => ?_⟩
  · have taken : effect .requestReset s.gw = (s.gw.resetBy .request).beginLoad := by
      simp only [effect, Gateway.requestReset, if_pos due]
    dsimp only
    rw [taken]
    exact ⟨rfl, rfl, rfl, rfl, rfl, rfl, rfl, rfl,
      (resetBy_allBut _ _).trans ((beginLoad_allBut _).mono (by decide))⟩
  · simp only [effect, Gateway.requestReset, if_neg other]

/-- The page named by the in-flight record is marked TORN, and no other page or word changes (R161). -/
theorem markTorn_pageAt (s : Store) {n : Nat} (inside : n < s.pages.length) :
    (s.markTorn.pageAt n).state = (if s.inFlight.map Prod.snd = some n then .torn else (s.pageAt n).state) ∧
      (s.markTorn.pageAt n).words = (s.pageAt n).words := by
  unfold Store.markTorn
  cases record : s.inFlight with
  | none => simp
  | some operation =>
    obtain ⟨kind, m⟩ := operation
    simp only [Store.pageAt, List.getD_eq_getElem?_getD, List.getElem?_modify, Option.map_some, Option.some.injEq,
      List.getElem?_eq_getElem inside, Option.map_some, Option.getD_some]
    split <;> simp

/-- Settles O5, by the mark that the begin of a Boot Load puts on the page in flight. -/
theorem releaseMarksPageTorn : Obligations.ReleaseMarksPageTorn := by
  intro s n
  refine exec_of_effect (c := .resetRelease) ⟨rfl, fun other => ?_, fun held => ?_⟩
  · simp only [effect, Gateway.resetRelease, if_neg other]
  · have begun : effect .resetRelease s.gw = s.gw.beginLoad := by
      simp only [effect, Gateway.resetRelease, if_pos held]
    have record : s.gw.store.markTorn.inFlight = s.gw.store.inFlight := by
      unfold Store.markTorn
      split <;> simp_all
    dsimp only
    rw [begun]
    exact ⟨rfl, beginLoad_allBut _, record, markTorn_pageAt s.gw.store⟩

end Sys2Proof.Machine
end

section
/-! SUPPORT. The Boot Load: what each page gives its table, and how the load ends (R45, R50, R52, R117, R157, R162 to R165). -/

open Sys2Proof

namespace Sys2Proof.Machine

/-! ## Lists written at consecutive indices -/

theorem getD_set {α : Type} (ws : List α) (i j : Nat) (v d : α) :
    (ws.set i v).getD j d = if j = i ∧ i < ws.length then v else ws.getD j d := by
  simp only [List.getD_eq_getElem?_getD, List.getElem?_set]
  by_cases same : i = j
  · subst same
    by_cases inside : i < ws.length <;> simp [inside]
  · simp [same, Ne.symm same]

/-- What stands at an index after the words `f 0` to `f (m - 1)` are written from an index on. -/
theorem getD_foldl_set_range {α : Type} (ws : List α) (base m : Nat) (f : Nat → α) {i : Nat} (inside : i < ws.length) (d : α) :
    ((List.range m).foldl (fun ws j => ws.set (base + j) (f j)) ws).getD i d =
      if base ≤ i ∧ i < base + m then f (i - base) else ws.getD i d := by
  refine (foldl_range_induction (P := fun n (l : List α) => l.length = ws.length ∧
    l.getD i d = if base ≤ i ∧ i < base + n then f (i - base) else ws.getD i d) ?_ m ?_).2
  · exact ⟨rfl, by rw [if_neg (by omega)]⟩
  · rintro n - l ⟨length, before⟩
    refine ⟨by rw [List.length_set, length], ?_⟩
    rw [getD_set, before, length]
    by_cases now : i = base + n
    · subst now
      rw [if_pos ⟨rfl, inside⟩, if_pos (by omega), Nat.add_sub_cancel_left]
    · have later : (base ≤ i ∧ i < base + (n + 1)) ↔ base ≤ i ∧ i < base + n := by omega
      simp only [now, false_and, if_false, later]

/-! ## One page as one event -/

theorem bootPageLoad_of_loading {g : Gateway} {n : Nat} (loading : g.phase = .loading n) (page : n ≤ 55) :
    effect .bootPageLoad g = g.loadPage n := by
  simp [effect, Gateway.bootPageLoad, loading, page]

/-- A TORN page is kept for LOAD_FAULT (R162). -/
theorem pageBegun_loadFault (g : Gateway) (n : Nat) :
    (g.pageBegun n).loadFault = true ↔ g.loadFault = true ∨ (g.store.pageAt n).state = .torn := by
  simp [Gateway.pageBegun]

/-- A page that gives reset values is TORN, or reads 0 throughout (R163). -/
theorem torn_or_isZero_iff (page : Page) :
    (page.state = .torn ∨ page.isZero = true) ↔ page.state = .torn ∨ ∀ w < 16, page.read w = 0 := by
  by_cases torn : page.state = .torn <;> simp [torn, Page.isZero]

/-! ## PORT from page 1 (R45) -/

theorem loadPort_port (g : Gateway) (page : Page) (p : PortId) :
    (g.loadPort page).port p =
      { g.port p with
        words :=
          if page.state = .torn ∨ page.isZero then PortWords.reset p
          else loadedPortWords page p (if p = .a then 0 else 8) } := by
  unfold Gateway.loadPort
  cases p <;> split <;> rfl

theorem loadedPortWords_get (page : Page) (p : PortId) (base : Nat) {k : Nat} (small : k < 7) :
    (loadedPortWords page p base).get k = loadedPortWord p k (page.read (base + k)) &&& portMask k := by
  interval_cases k <;> rfl

/-- PORT words 1-6 are judged whole (R45). -/
theorem loadedPortWord_masked (p : PortId) {k : Nat} (small : k < 7) (rest : 1 ≤ k) (v : Word) :
    loadedPortWord p k v &&& portMask k =
      if portWordInRange k v then v &&& portMask k else (PortWords.reset p).get k := by
  obtain ⟨j, rfl⟩ : ∃ j, k = j + 1 := ⟨k - 1, by omega⟩
  simp only [loadedPortWord]
  split
  · exact and_mask_and_mask v _
  · exact (reset_inRange p _ small).2

/-- Word 0 is judged setting by setting: mode, rate and strip flag as they stand, the access level and the default action
by their own codes (R45). -/
theorem loadedPortWord_zero (p : PortId) (v : Word) :
    let w := loadedPortWord p 0 v &&& portMask 0
    w.getLsbD 15 = v.getLsbD 15 ∧ rateCode w = rateCode v ∧ w.getLsbD 0 = v.getLsbD 0 ∧
      field w 8 2 = (if field v 8 2 = 3 then field (PortWords.reset p).control 8 2 else field v 8 2) ∧
      field w 4 2 = if field v 4 2 = 3 then field (PortWords.reset p).control 4 2 else field v 4 2 := by
  have kept : ∀ x y : Word,
      let w := (v &&& 0xB001 ||| x &&& 0x0300 ||| y &&& 0x0030) &&& 0xB331
      w.getLsbD 15 = v.getLsbD 15 ∧ rateCode w = rateCode v ∧ w.getLsbD 0 = v.getLsbD 0 ∧
        field w 8 2 = field x 8 2 ∧ field w 4 2 = field y 4 2 := by
    intro x y
    refine ⟨by simp, ?_, by simp, ?_, ?_⟩
    all_goals
      refine field_congr fun i inside => ?_
      interval_cases i <;> simp
  obtain ⟨mode, rate, strip, access, action⟩ := kept
    (if field v 8 2 = 3 then (PortWords.reset p).control else v)
    (if field v 4 2 = 3 then (PortWords.reset p).control else v)
  refine ⟨mode, rate, strip, access.trans ?_, action.trans ?_⟩
  · split <;> rfl
  · split <;> rfl

/-- Settles O6, by the words page 1 gives a port: word 0 setting by setting, the others whole. -/
theorem bootLoadsPortPage : Obligations.BootLoadsPortPage := by
  intro s p k loading small
  refine exec_of_effect (c := .bootPageLoad) ⟨rfl, ?_⟩
  rw [bootPageLoad_of_loading loading (by decide), loadPage_eq, if_pos rfl]
  have begun := pageBegun_allBut s.gw 1
  have loaded := loadPort_allBut (s.gw.pageBegun 1) (s.gw.store.pageAt 1)
  have portOf : ∀ q, (s.gw.pageBegun 1).port q = s.gw.port q := by rintro (_ | _) <;> rfl
  have port := fun q => (loadPort_port (s.gw.pageBegun 1) (s.gw.store.pageAt 1) q)
  have phase : ((s.gw.pageBegun 1).loadPort (s.gw.store.pageAt 1)).phase = .loading 2 := loaded .phase (by decide)
  have fault : ((s.gw.pageBegun 1).loadPort (s.gw.store.pageAt 1)).loadFault = (s.gw.pageBegun 1).loadFault :=
    loaded .loadFault (by decide)
  refine ⟨phase, (begun.mono (by simp)).trans (loaded.mono (by simp)), fun q => by rw [port q, portOf q], ?_, ?_, ?_, ?_⟩
  · rw [fault, pageBegun_loadFault]
  · intro resets
    rw [port p, if_pos ((torn_or_isZero_iff _).mpr resets)]
  all_goals
    rintro torn ⟨w, inside, nonzero⟩
    have stands : ¬ ((s.gw.store.pageAt 1).state = .torn ∨ (s.gw.store.pageAt 1).isZero = true) := by
      rw [torn_or_isZero_iff]
      rintro (bad | zero)
      · exact torn bad
      · exact nonzero (zero w inside)
    rw [port p, if_neg stands]
  · intro rest
    rw [loadedPortWords_get _ _ _ small, loadedPortWord_masked p small rest]
  · rintro rfl
    have control : (loadedPortWords (s.gw.store.pageAt 1) p (if p = .a then 0 else 8)).control = _ :=
      loadedPortWords_get _ p _ (by decide : 0 < 7)
    simp only [PortWords.modeOnline, PortWords.strip, control]
    exact loadedPortWord_zero p _

/-! ## GENERAL from page 2 (R50, R52) -/

theorem modPort_of_same {g : Gateway} {p : PortId} {f : Port → Port} (same : f (g.port p) = g.port p) :
    g.modPort p f = g := by
  rw [Gateway.modPort, same, Gateway.setPort_port]

/-- A port that is not ONLINE ignores a PAUSE ask (R38). -/
theorem pauseAsk_of_offline {q : Port} (off : q.online = false) : q.pauseAsk = q := by
  simp [Port.pauseAsk, off]

/-- With no port ONLINE a re-evaluation of POOL_LOW touches the Event Monitor alone (R38, R51). -/
theorem poolEval_of_offline {g : Gateway} (off : ∀ p, (g.port p).online = false) :
    g.poolEval = g.handLevel .poolLow g.poolLow := by
  unfold Gateway.poolEval
  dsimp only
  split
  · rw [modPort_of_same (g := g.handLevel .poolLow g.poolLow) (p := .a) (pauseAsk_of_offline (off .a)),
      modPort_of_same (g := g.handLevel .poolLow g.poolLow) (p := .b) (pauseAsk_of_offline (off .b))]
  · rfl

/-- With no port ACTIVE a rising ALERT builds no notice (R144). -/
theorem noticeAsk_of_inactive {g : Gateway} (out : ∀ p, (g.port p).state ≠ .active) : AllBut [.monitor] g g.noticeAsk := by
  have unfit : g.noticeFits = false := by
    simp [Gateway.noticeFits, out g.general.noticePort]
  unfold Gateway.noticeAsk
  rw [unfit]
  split
  · exact .refl _ _
  · exact setFlag_allBut g _

theorem alertEval_of_inactive {g : Gateway} (out : ∀ p, (g.port p).state ≠ .active) : AllBut [.monitor] g g.alertEval := by
  have pin : AllBut [.monitor] g { g with monitor := { g.monitor with alert := g.asserts } } :=
    .of_same fun x => by cases x <;> simp [Part.Same]
  unfold Gateway.alertEval
  dsimp only
  split
  · refine pin.trans (noticeAsk_of_inactive ?_)
    rintro (_ | _)
    · exact out .a
    · exact out .b
  · exact pin

theorem latch_of_inactive {g : Gateway} (out : ∀ p, (g.port p).state ≠ .active) (src : Source) :
    AllBut [.monitor] g (g.latch src) :=
  (setFlag_allBut g src).trans (alertEval_of_inactive fun p => by rw [Gateway.port_setFlag]; exact out p)

theorem evalPool_of_starting {g : Gateway} (a : g.portA.state = .starting) (b : g.portB.state = .starting) :
    AllBut [.monitor] g g.evalPool := by
  have state : ∀ p, (g.port p).state = .starting := by
    rintro (_ | _)
    · exact a
    · exact b
  unfold Gateway.evalPool
  rw [poolEval_of_offline fun p => by simp [Port.online, state p]]
  exact (handLevel_allBut g _ _).trans (alertEval_of_inactive fun p => by simp [state p])

/-- A move of POOL_LOW's recorded level from one state to a later one was an edge whose flag is latched, when the edge
select names it (R171). -/
def PoolEdgeLatched (g t : Gateway) : Prop :=
  t.monitor.history.poolLow ≠ g.monitor.history.poolLow →
    edgeLatches g.general.edgeSelect .poolLow t.monitor.history.poolLow = true → Latched .poolLow t

theorem PoolEdgeLatched.trans {g h t : Gateway} (first : PoolEdgeLatched g h) (general : h.general = g.general)
    (latches : Latched .poolLow h → Latched .poolLow t) (second : PoolEdgeLatched h t) : PoolEdgeLatched g t := by
  intro moved named
  by_cases later : t.monitor.history.poolLow = h.monitor.history.poolLow
  · rw [later] at moved named
    exact latches (first moved named)
  · exact second later (by rw [general]; exact named)

theorem poolEdgeLatched_of_same {g t : Gateway} (same : t.monitor.history.poolLow = g.monitor.history.poolLow) :
    PoolEdgeLatched g t :=
  fun moved => absurd same moved

theorem poolEval_edge (g : Gateway) : PoolEdgeLatched g g.poolEval := by
  intro moved named
  have monitor := poolEval_monitor g
  rw [Latched, monitor]
  rw [monitor, handLevel_poolLow_history] at moved named
  have edge : ¬ g.monitor.history.get .poolLow = g.poolLow := fun same => moved same.symm
  have latches : edgeLatches g.general.edgeSelect .poolLow g.poolLow = true := named
  rw [Monitor.handLevel, if_neg edge]
  dsimp only
  rw [if_pos latches]
  have flag (flags mask : Word) : (flags ||| mask) &&& mask = mask := by
    rw [BitVec.or_comm, or_and_of_and _ _ _ BitVec.and_self]
  exact ⟨flag _ _, flag _ _⟩

theorem noticeAsk_edge (g : Gateway) : PoolEdgeLatched g g.noticeAsk := by
  unfold Gateway.noticeAsk
  dsimp only
  repeat' split
  · exact poolEdgeLatched_of_same rfl
  · have taken (h : Gateway) (monitor : h.monitor = g.monitor) (general : h.general = g.general) :
        PoolEdgeLatched g h.poolEval := by
      have edge := poolEval_edge h
      rw [PoolEdgeLatched, monitor, general] at edge
      exact edge
    exact taken _ (by simp) (by simp)
  · exact poolEdgeLatched_of_same rfl

theorem alertEval_edge (g : Gateway) : PoolEdgeLatched g g.alertEval := by
  unfold Gateway.alertEval
  dsimp only
  split
  · exact noticeAsk_edge { g with monitor := { g.monitor with alert := g.asserts } }
  · exact poolEdgeLatched_of_same rfl

theorem evalPool_edge (g : Gateway) : PoolEdgeLatched g g.evalPool :=
  (poolEval_edge g).trans (poolEval_allBut g .general (by decide)) Latched.alertEval (alertEval_edge _)

theorem loadedGeneral_get (page : Page) {i : Nat} (small : i < 11) :
    (loadedGeneral page).get i = if i = 10 then loadedPoolWord (page.read i) else page.read i := by
  interval_cases i <;> rfl

/-- GENERAL as page 2 gives it (R52, R163). -/
def Gateway.withGeneralPage (g : Gateway) (page : Page) : Gateway :=
  { g with general := if page.state = .torn ∨ page.isZero then General.reset else loadedGeneral page }

theorem withGeneralPage_allBut (g : Gateway) (page : Page) : AllBut [.general] g (g.withGeneralPage page) :=
  .of_same fun x => by cases x <;> simp [Part.Same, Gateway.withGeneralPage]

theorem loadGeneral_eq (g : Gateway) (page : Page) : g.loadGeneral page = (g.withGeneralPage page).evalPool := rfl

/-- Settles O7, by what a re-evaluation of POOL_LOW does on the loaded table. -/
theorem bootLoadsGeneralPage : Obligations.BootLoadsGeneralPage := by
  intro s i loading small
  refine exec_of_effect (c := .bootPageLoad) ⟨rfl, ?_⟩
  rw [bootPageLoad_of_loading loading (by decide), loadPage_eq, if_neg (by decide), if_pos rfl, loadGeneral_eq]
  have begun := pageBegun_allBut s.gw 2
  have loaded := withGeneralPage_allBut (s.gw.pageBegun 2) (s.gw.store.pageAt 2)
  have before : AllBut [.phase, .loadFault, .general] s.gw ((s.gw.pageBegun 2).withGeneralPage (s.gw.store.pageAt 2)) :=
    (begun.mono (by simp)).trans (loaded.mono (by simp))
  have evaluated := evalPool_allBut ((s.gw.pageBegun 2).withGeneralPage (s.gw.store.pageAt 2))
  have general : ((s.gw.pageBegun 2).withGeneralPage (s.gw.store.pageAt 2)).evalPool.general = _ :=
    evaluated .general (by decide)
  have phase : ((s.gw.pageBegun 2).withGeneralPage (s.gw.store.pageAt 2)).evalPool.phase = .loading 3 :=
    evaluated .phase (by decide)
  have fault : ((s.gw.pageBegun 2).withGeneralPage (s.gw.store.pageAt 2)).evalPool.loadFault = (s.gw.pageBegun 2).loadFault :=
    evaluated .loadFault (by decide)
  refine ⟨phase, ?_, (before.mono (by decide)).trans (evaluated.mono (by decide)), fun a b => ?_, ?_, evalPool_history _, ?_, ?_,
    ?_⟩
  · rw [fault, pageBegun_loadFault]
  · have quiet : AllBut [.monitor] ((s.gw.pageBegun 2).withGeneralPage (s.gw.store.pageAt 2)) _ :=
      evalPool_of_starting (g := (s.gw.pageBegun 2).withGeneralPage (s.gw.store.pageAt 2)) a b
    exact (before.mono (by decide)).trans (quiet.mono (by decide))
  · have pin : ((s.gw.pageBegun 2).withGeneralPage (s.gw.store.pageAt 2)).evalPool.AlertOk := alertEval_alertOk _
    simp only [Gateway.AlertOk] at pin
    rw [pin]
    simp [Gateway.asserts, Monitor.asserts, Monitor.unmasked0, Monitor.unmasked1]
  · intro moved named
    refine evalPool_edge _ moved ?_
    rw [general] at named
    exact named
  · intro resets
    rw [general]
    exact if_pos ((torn_or_isZero_iff _).mpr resets)
  · rintro torn ⟨w, inside, nonzero⟩
    have stands : ¬ ((s.gw.store.pageAt 2).state = .torn ∨ (s.gw.store.pageAt 2).isZero = true) := by
      rw [torn_or_isZero_iff]
      rintro (bad | zero)
      · exact torn bad
      · exact nonzero (zero w inside)
    rw [general, Gateway.withGeneralPage]
    dsimp only
    rw [if_neg stands, loadedGeneral_get _ small]
    by_cases pool : i = 10
    · subst pool
      simp only [loadedPoolWord, true_and, if_true]
      by_cases range : poolMarkOf ((s.gw.store.pageAt 2).read 10) ≤ 31
      · rw [if_pos range, if_neg (by omega)]
      · rw [if_neg range, if_pos (by omega)]
    · rw [if_neg pool, if_neg fun both => pool both.1]

/-! ## GROUP, ROUTE and the meters (R117, R157) -/

theorem loadGroup_getD (g : Gateway) (page : Page) {i : Nat} (small : i < 8) :
    (g.loadGroup page).group.getD i 0 = page.read i := by
  simp [Gateway.loadGroup, small]

theorem loadRoute_getD (g : Gateway) (page : Page) (n : Nat) {i : Nat} (inside : i < g.route.length) :
    (g.loadRoute page n).route.getD i 0 =
      if 16 * (n - 8) ≤ i ∧ i < 16 * (n - 8) + 16 then page.read (i - 16 * (n - 8)) else g.route.getD i 0 := by
  have written := getD_foldl_set_range g.route (16 * (n - 8)) 16 page.read inside 0
  unfold Gateway.loadRoute
  dsimp only
  rw [written]

/-- Settles O8, by what the words of a page leave at each index of their table. -/
theorem bootLoadsGroupAndRoutePages : Obligations.BootLoadsGroupAndRoutePages := by
  intro s n i loading pages
  refine exec_of_effect (c := .bootPageLoad) ⟨rfl, ?_⟩
  rw [bootPageLoad_of_loading loading (by omega), loadPage_eq, if_neg (by omega), if_neg (by omega)]
  have begun := pageBegun_allBut s.gw n
  rcases pages with rfl | range
  · rw [if_pos rfl]
    have loaded := loadGroup_allBut (s.gw.pageBegun 3) (s.gw.store.pageAt 3)
    exact ⟨rfl, pageBegun_loadFault s.gw 3, fun _ => ⟨(begun.mono (by simp)).trans (loaded.mono (by simp)),
      fun small => loadGroup_getD _ _ small⟩, fun other => absurd rfl other⟩
  · rw [if_neg (by omega), if_neg (by omega)]
    have loaded := loadRoute_allBut (s.gw.pageBegun n) (s.gw.store.pageAt n) n
    exact ⟨rfl, pageBegun_loadFault s.gw n, fun three => absurd three (by omega), fun _ =>
      ⟨(begun.mono (by simp)).trans (loaded.mono (by simp)), fun inside =>
        loadRoute_getD (s.gw.pageBegun n) (s.gw.store.pageAt n) n inside⟩⟩

theorem loadMeters_meter (g : Gateway) (page : Page) (n : Nat) {k : Nat} (inside : k < g.meters.length) :
    (g.loadMeters page n).meter k =
      if 4 * (n - 4) ≤ k ∧ k < 4 * (n - 4) + 4 then loadedMeter page (4 * (k - 4 * (n - 4))) else g.meter k :=
  getD_foldl_set_range g.meters (4 * (n - 4)) 4 (fun i => loadedMeter page (4 * i)) inside Meter.reset

/-- A meter as a page that is not TORN gives it (R117). -/
theorem loadedMeter_values {page : Page} (torn : page.state ≠ .torn) (base : Nat) :
    (loadedMeter page base).control = page.read base &&& 0x8003 ∧
      (loadedMeter page base).rate = (if (page.read (base + 1)).toNat ≤ 4095 then page.read (base + 1) else 0) ∧
      (loadedMeter page base).burst = (if page.read (base + 2) = 0 then 1 else page.read (base + 2)) ∧
      (loadedMeter page base).credit.toNat =
        min (page.read (base + 3)).toNat (loadedMeter page base).burst.toNat := by
  have loaded : loadedMeter page base =
      (⟨page.read base &&& 0x8003, loadedMeterWord 1 (page.read (base + 1)), loadedMeterWord 2 (page.read (base + 2)),
        page.read (base + 3)⟩ : Meter).limited := by
    rw [loadedMeter, if_neg torn]
    rfl
  have burst : (loadedMeter page base).burst = loadedMeterWord 2 (page.read (base + 2)) := by rw [loaded, limited_eq]
  refine ⟨by rw [loaded, limited_eq], ?_, ?_, ?_⟩
  · rw [loaded, limited_eq]
    simp [loadedMeterWord, meterWordInRange, Meter.reset, Meter.get]
  · rw [burst]
    by_cases zero : page.read (base + 2) = 0 <;>
      simp [loadedMeterWord, meterWordInRange, Meter.reset, Meter.get, zero, ← BitVec.toNat_inj] at *
  · rw [burst, loaded, limited_credit]

/-- Settles O9, by what a page gives each of its four meters. -/
theorem bootLoadsMeterPages : Obligations.BootLoadsMeterPages := by
  intro s n k loading low high inside
  refine exec_of_effect (c := .bootPageLoad) ⟨rfl, ?_⟩
  rw [bootPageLoad_of_loading loading (by omega), loadPage_eq, if_neg (by omega), if_neg (by omega), if_neg (by omega),
    if_pos high]
  have begun := pageBegun_allBut s.gw n
  have loaded := loadMeters_allBut (s.gw.pageBegun n) (s.gw.store.pageAt n) n
  have meter := loadMeters_meter (s.gw.pageBegun n) (s.gw.store.pageAt n) n (k := k) inside
  refine ⟨rfl, (begun.mono (by simp)).trans (loaded.mono (by simp)), pageBegun_loadFault s.gw n, fun other => ?_,
    fun from_ to_ torn => ?_, fun from_ to_ torn => ?_⟩
  · rw [meter, if_neg other]
    rfl
  · rw [meter, if_pos ⟨from_, to_⟩, loadedMeter, if_pos torn]
  · rw [meter, if_pos ⟨from_, to_⟩]
    exact loadedMeter_values torn _

/-! ## The end of the Boot Load (R117, R164, R165) -/

theorem bootLoadEnd_of_loading {g : Gateway} (loading : g.phase = .loading 56) : effect .bootLoadEnd g = g.endLoad := by
  simp [effect, Gateway.bootLoadEnd, loading]

theorem started_port (g : Gateway) (p : PortId) : g.started.port p = (g.port p).leaveStarting := by
  cases p <;> rfl

theorem latchIf_of_inactive {g : Gateway} (out : ∀ p, (g.port p).state ≠ .active) (due : Bool) (src : Source) :
    AllBut [.monitor] g (g.latchIf due src) := by
  cases due
  · exact .refl _ _
  · exact latch_of_inactive out src

theorem port_of_allBut {l : List Part} {g t : Gateway} (frame : AllBut l g t) (a : .portA ∉ l) (b : .portB ∉ l)
    (p : PortId) : t.port p = g.port p := by
  cases p
  · exact frame .portA a
  · exact frame .portB b

theorem latched_latch {src : Source} {g : Gateway} (h : Latched src g) (other : Source) : Latched src (g.latch other) :=
  Latched.alertEval (h.setFlag other)

theorem endLoad_of_started (g : Gateway) : AllBut [.monitor] g.started g.endLoad := by
  have out : ∀ p, (g.started.port p).state ≠ .active := fun p => by
    rw [started_port]
    exact leaveStarting_inactive _
  have first := latchIf_of_inactive out g.store.inFlight.isSome .storeFault
  have still : ∀ p, ((g.started.latchIf g.store.inFlight.isSome .storeFault).port p).state ≠ .active := fun p => by
    rw [port_of_allBut first (by decide) (by decide)]
    exact out p
  exact first.trans (latchIf_of_inactive still g.loadFault .loadFault)

theorem endLoad_latched (g : Gateway) :
    (g.store.inFlight.isSome = true → Latched .storeFault g.endLoad) ∧ (g.loadFault = true → Latched .loadFault g.endLoad) ∧
      (g.store.inFlight = none → g.loadFault = false → g.endLoad.monitor = g.monitor) := by
  rw [endLoad_eq]
  refine ⟨fun due => ?_, fun due => ?_, fun none noFault => ?_⟩
  · rw [due]
    have first : Latched .storeFault (g.started.latchIf true .storeFault) := latch_latched _ _
    cases g.loadFault
    · exact first
    · exact latched_latch first _
  · rw [due]
    exact latch_latched _ _
  · rw [none, noFault]
    exact started_allBut g .monitor (by decide)

theorem started_meter {g : Gateway} {k : Nat} (inside : k < g.meters.length) :
    g.started.meter k = (g.meter k).started := by
  have meters : g.started.meters = g.meters.map Meter.started := rfl
  simp [Gateway.meter, meters, List.getD_eq_getElem?_getD, inside]

/-- The words of an entry, and its valid flag, after the table is settled (R164). -/
theorem settledWord_valid (s : Store) (route : List Word) (e : Nat) :
    settledWord s route e 0 &&& 0x7FFF = routeWord route e 0 &&& 0x7FFF ∧
      (entryValid (settledWord s route e 0) = true ↔
        entryValid (routeWord route e 0) = true ∧ entryWellFormed route e = true ∧
          ∀ v < 12, (s.pageAt (8 + (12 * e + v) / 16)).state ≠ .torn) := by
  have torn : entryTorn s e = false ↔ ∀ v < 12, (s.pageAt (8 + (12 * e + v) / 16)).state ≠ .torn := by
    simp [entryTorn]
  have noFlag (v : Word) : entryValid (v &&& 0x7FFF) = false := by simp [entryValid]
  simp only [settledWord, if_neg (by decide : ¬ (0 = 11)), true_and, Bool.or_eq_true, Bool.not_eq_true']
  split
  · rename_i drops
    refine ⟨mask_idem _ _, ?_⟩
    rw [noFlag, ← torn]
    constructor
    · nofun
    · rintro ⟨-, formed, whole⟩
      rcases drops with bad | bad
      · exact absurd bad (by rw [whole]; decide)
      · exact absurd formed (by rw [bad]; decide)
  · rename_i keeps
    push Not at keeps
    refine ⟨rfl, ?_⟩
    rw [← torn]
    simp only [Bool.not_eq_true, Bool.not_eq_false] at keeps
    simp [keeps]

/-- Settles O10, by what the settled table and the started meters and ports are, and by what a report of the two faults
changes where no port is ACTIVE. -/
theorem bootLoadEndSettles : Obligations.BootLoadEndSettles := by
  intro s e w k p loading length entry small inside
  refine exec_of_effect (c := .bootLoadEnd) ⟨rfl, ?_⟩
  rw [bootLoadEnd_of_loading loading]
  have ended := endLoad_of_started s.gw
  have phase : s.gw.endLoad.phase = .running := ended .phase (by decide)
  have store : s.gw.endLoad.store = { s.gw.store with inFlight := none } := ended .store (by decide)
  have route : s.gw.endLoad.route = settleRoute s.gw.store s.gw.route := ended .route (by decide)
  have meters : s.gw.endLoad.meters = s.gw.started.meters := ended .meters (by decide)
  have meter : s.gw.endLoad.meter k = (s.gw.meter k).started := by
    rw [← started_meter inside]
    simp only [Gateway.meter, meters]
  have port : s.gw.endLoad.port p = (s.gw.port p).leaveStarting := by
    rw [port_of_allBut ended (by decide) (by decide), started_port]
  have word := fun w small => settleRoute_word s.gw.store length (e := e) (w := w) entry small
  obtain ⟨kept, valid⟩ := settledWord_valid s.gw.store s.gw.route e
  rw [route, word 11 (by decide), word w small, word 0 (by decide), meter, port]
  refine ⟨phase, store, ((started_allBut _).mono (by simp)).trans (ended.mono (by simp)), rfl, fun from_ to_ => ?_, kept,
    valid, ?_, ?_, ?_, fun enabled => ?_, fun disabled => ?_, rfl, endLoad_latched s.gw⟩
  · rw [settledWord, if_neg (by omega), if_neg (by omega)]
  iterate 3
    unfold Meter.started
    split
    · rfl
    · rw [limited_eq]
  · rw [Meter.started, if_pos enabled]
  · rw [Meter.started, if_neg (by simp [disabled]), limited_credit]

end Sys2Proof.Machine
end

section
/-! SUPPORT. What ends of frames, notices, PAUSE asks and selections leave of a port, the prompts of holds, and the
commands of local time and of the line (R3, R6, R19, R24, R28, R35, R40, R41, R54, R87, R103). -/

open Sys2Proof

namespace Sys2Proof.Machine

/-! ## Ports of which only the sending side and the prompt of a hold move -/

/-- A hold's prompt has come at most; the rest of a part in the slot stands (R87). -/
def SlotRole.Prompted (old new : SlotRole) : Prop :=
  new = old ∨ ∃ timer retest, old = .holding timer retest ∧ new = .holding timer true

theorem SlotRole.Prompted.trans {a b c : SlotRole} (h : a.Prompted b) (k : b.Prompted c) : a.Prompted c := by
  rcases h with rfl | ⟨timer, retest, was, rfl⟩
  · exact k
  · rcases k with rfl | ⟨timer', retest', was', rfl⟩
    · exact .inr ⟨timer, retest, was, rfl⟩
    · cases was'
      exact .inr ⟨timer, retest, was, rfl⟩

theorem SlotRole.Prompted.of_prompted {old new : SlotRole} (h : old.Prompted new) {timer : Nat}
    (holds : old = .holding timer true) : new = .holding timer true := by
  rcases h with rfl | ⟨timer', retest', was, rfl⟩
  · exact holds
  · cases holds.symm.trans was
    rfl

/-- What the end of a frame, a notice, a PAUSE ask and a selection do to a port: the transmit side, the queues and the
pending request move, and a hold may be prompted (R34, R38, R57, R87, R144). -/
structure Port.Serves (q r : Port) : Prop where
  same : r = { q with
    role := r.role, slot := r.slot, tx := r.tx, attempts := r.attempts, sending := r.sending, tolerance := r.tolerance,
    pendingPause := r.pendingPause, urgent := r.urgent, normal := r.normal }
  role : q.role.Prompted r.role

namespace Port.Serves

variable {q r t : Port}

theorem refl (q : Port) : q.Serves q := ⟨rfl, .inl rfl⟩

theorem trans (h : q.Serves r) (k : r.Serves t) : q.Serves t := by
  refine ⟨?_, h.role.trans k.role⟩
  rw [k.same, h.same]

theorem words (h : q.Serves r) : r.words = q.words := by rw [h.same]
theorem state (h : q.Serves r) : r.state = q.state := by rw [h.same]
theorem linkUp (h : q.Serves r) : r.linkUp = q.linkUp := by rw [h.same]
theorem view (h : q.Serves r) : r.view = q.view := by rw [h.same]
theorem rx (h : q.Serves r) : r.rx = q.rx := by rw [h.same]
theorem staging (h : q.Serves r) : r.staging = q.staging := by rw [h.same]
theorem record (h : q.Serves r) : r.record = q.record := by rw [h.same]
theorem abort (h : q.Serves r) : r.abort = q.abort := by rw [h.same]
theorem pause (h : q.Serves r) : r.pause = q.pause := by rw [h.same]

/-- A port that does not hold has the same part in the slot. -/
theorem role_of_free (h : q.Serves r) (free : q.isHolding = false) : r.role = q.role := by
  rcases h.role with same | ⟨timer, retest, was, -⟩
  · exact same
  · simp [Port.isHolding, was] at free

end Port.Serves

theorem promptIf_serves (c : DecisionRecord → Bool) (q : Port) : q.Serves (Port.promptIf c q) := by
  rcases promptIf_cases c q with same | ⟨timer, retest, role, prompted⟩
  · rw [same]
    exact .refl q
  · rw [prompted]
    exact ⟨rfl, .inr ⟨timer, retest, role, rfl⟩⟩

theorem pauseAsk_serves (q : Port) : q.Serves q.pauseAsk := by
  unfold Port.pauseAsk
  repeat' split
  · exact .refl q
  · exact ⟨rfl, .inl rfl⟩
  · exact ⟨rfl, .inl rfl⟩
  · exact .refl q

theorem enqueue_serves (q : Port) (name : QueueName) (b : PoolBuffer) : q.Serves (q.enqueue name b) := by
  cases name <;> exact ⟨rfl, .inl rfl⟩

theorem emptySlot_serves (q : Port) : q.Serves q.emptySlot := ⟨rfl, .inl rfl⟩

theorem loadSlot_serves (q : Port) (s : TxSlot) : q.Serves (q.loadSlot s) := ⟨rfl, .inl rfl⟩

theorem head_serves {q r : Port} {e : QueueEntry} (h : q.head = some (e, r)) : q.Serves r := by
  unfold Port.head at h
  split at h <;> cases h
  all_goals exact ⟨rfl, .inl rfl⟩

/-- Of both ports only that moves. -/
def Gateway.Serves (g t : Gateway) : Prop :=
  ∀ x, (g.port x).Serves (t.port x)

theorem Gateway.Serves.refl (g : Gateway) : g.Serves g := fun x => .refl (g.port x)

theorem Gateway.Serves.trans {g h t : Gateway} (a : g.Serves h) (b : h.Serves t) : g.Serves t :=
  fun x => (a x).trans (b x)

theorem serves_of_ports {g t : Gateway} (same : ∀ x, t.port x = g.port x) : g.Serves t := fun x => by
  rw [same x]
  exact .refl _

theorem serves_of_allBut {l : List Part} {g t : Gateway} (frame : AllBut l g t) (a : .portA ∉ l) (b : .portB ∉ l) :
    g.Serves t :=
  serves_of_ports (port_of_allBut frame a b)

theorem setPort_serves {g : Gateway} {p : PortId} {q : Port} (h : (g.port p).Serves q) : g.Serves (g.setPort p q) := by
  intro x
  rcases PortId.eq_or_other p x with rfl | rfl
  · rw [Gateway.port_setPort_self]
    exact h
  · rw [Gateway.port_setPort_other]
    exact .refl _

theorem modPort_serves (g : Gateway) (p : PortId) {f : Port → Port} (h : ∀ q : Port, q.Serves (f q)) : g.Serves (g.modPort p f) :=
  setPort_serves (h _)

theorem modBoth_serves (g : Gateway) {f : Port → Port} (h : ∀ q : Port, q.Serves (f q)) :
    g.Serves ((g.modPort .a f).modPort .b f) :=
  (modPort_serves g .a h).trans (modPort_serves _ .b h)

theorem poolEval_serves (g : Gateway) : g.Serves g.poolEval := by
  have level : g.Serves (g.handLevel .poolLow g.poolLow) := serves_of_ports fun x => by cases x <;> rfl
  unfold Gateway.poolEval
  dsimp only
  split
  · exact level.trans (modBoth_serves _ pauseAsk_serves)
  · exact level

theorem noticeAsk_serves (g : Gateway) : g.Serves g.noticeAsk := by
  unfold Gateway.noticeAsk
  dsimp only
  repeat' split
  · exact .refl g
  · have taken : g.Serves { g with free := g.free - 1 } := serves_of_ports fun x => by cases x <;> rfl
    exact (taken.trans (modPort_serves _ _ fun q => enqueue_serves q _ _)).trans (poolEval_serves _)
  · exact serves_of_ports fun x => by cases x <;> rfl

theorem alertEval_serves (g : Gateway) : g.Serves g.alertEval := by
  have pin : g.Serves { g with monitor := { g.monitor with alert := g.asserts } } :=
    serves_of_ports fun x => by cases x <;> rfl
  unfold Gateway.alertEval
  dsimp only
  split
  · exact pin.trans (noticeAsk_serves _)
  · exact pin

theorem latch_serves (g : Gateway) (src : Source) : g.Serves (g.latch src) :=
  Gateway.Serves.trans (serves_of_allBut (setFlag_allBut g src) (by decide) (by decide)) (alertEval_serves _)

theorem evalLevel_serves (g : Gateway) (c : Level) (v : Bool) : g.Serves (g.evalLevel c v) :=
  Gateway.Serves.trans (serves_of_allBut (handLevel_allBut g c v) (by decide) (by decide)) (alertEval_serves _)

theorem evalPool_serves (g : Gateway) : g.Serves g.evalPool := (poolEval_serves g).trans (alertEval_serves _)

theorem giveBack_serves (g : Gateway) (n : Nat) : g.Serves (g.giveBack n) := by
  have returned : g.Serves { g with free := g.free + n } := serves_of_ports fun x => by cases x <;> rfl
  exact returned.trans (modBoth_serves _ (promptIf_serves _))

theorem promptEgress_serves (g : Gateway) (p : PortId) : g.Serves (g.promptEgress p) := by
  have prompted : g.Serves (g.modPort p.other (Port.promptIf DecisionRecord.forwards)) :=
    modPort_serves g _ (promptIf_serves _)
  exact prompted.trans (serves_of_ports fun x => by cases x <;> rfl)

theorem promptAgent_serves (g : Gateway) : g.Serves g.promptAgent := modBoth_serves g (promptIf_serves _)

theorem reportEnd_serves (g : Gateway) (b : PoolBuffer) (kind : EndKind) : g.Serves (g.reportEnd b kind) := by
  rcases reportEnd_eq_or g b kind with same | due | failed
  · rw [same]
    exact .refl g
  · rw [due]
    exact serves_of_ports fun x => by cases x <;> rfl
  · rw [failed]
    exact latch_serves g _

theorem afterEnd_serves (g : Gateway) (p : PortId) (slot : TxSlot) (kind : EndKind) : g.Serves (g.afterEnd p slot kind) := by
  cases slot with
  | pool b =>
    exact (((giveBack_serves g 1).trans (promptEgress_serves _ p)).trans (evalPool_serves _)).trans (reportEnd_serves _ b kind)
  | empty => exact .refl g
  | pause f => exact .refl g

theorem endTransmission_serves (g : Gateway) (p : PortId) (kind : EndKind) : g.Serves (g.endTransmission p kind) := by
  rw [endTransmission_eq]
  exact (modPort_serves g p emptySlot_serves).trans (afterEnd_serves _ p _ kind)

theorem discardAged_serves {g : Gateway} {p : PortId} {e : QueueEntry} {q : Port} (head : (g.port p).head = some (e, q)) :
    g.Serves (g.discardAged p e q) := by
  have taken : g.Serves ((g.setPort p q).count p .aged) :=
    (setPort_serves (head_serves head)).trans (serves_of_allBut (bump_allBut _ _ _) (by decide) (by decide))
  exact ((((taken.trans (latch_serves _ _)).trans (giveBack_serves _ 1)).trans (promptEgress_serves _ p)).trans
    (evalPool_serves _)).trans (reportEnd_serves _ _ _)

theorem selectFrame_serves (fuel : Nat) (p : PortId) (g : Gateway) : g.Serves (Gateway.selectFrame fuel p g) := by
  induction fuel generalizing g with
  | zero => exact .refl g
  | succ n ih =>
    unfold Gateway.selectFrame
    split
    · exact .refl g
    · rename_i e q head
      split
      · exact (discardAged_serves head).trans (ih _)
      · exact setPort_serves ((head_serves head).trans (loadSlot_serves q _))

theorem takePause_serves (g : Gateway) (p : PortId) : g.Serves (g.takePause p) := by
  unfold Gateway.takePause
  dsimp only
  repeat' split
  · exact setPort_serves ⟨rfl, .inl rfl⟩
  · exact setPort_serves ⟨rfl, .inl rfl⟩
  · exact .refl g

theorem selectEgress_serves (g : Gateway) (p : PortId) : g.Serves (g.selectEgress p) := by
  unfold Gateway.selectEgress
  dsimp only
  repeat' split
  · exact (takePause_serves g p).trans (selectFrame_serves _ p _)
  · exact takePause_serves g p
  · exact .refl g

/-- The selections at the end of an event leave each port's settings, state, link, view and receive side (R57). -/
theorem settle_serves (g : Gateway) : g.Serves g.settle :=
  (((selectEgress_serves g .a).trans (selectEgress_serves _ .b)).trans (selectEgress_serves _ .a)).trans
    (selectEgress_serves _ .b)

/-- A latched flag stays latched through whatever the shared operations do (R170). -/
theorem latched_steadyAside (src : Source) : SteadyAside (Latched src) where
  port p q _ h := h.of_monitor_eq (setPort_allBut _ p q .monitor (by cases p <;> decide))
  counters i n h := h
  restart r h := h
  latch other h := latched_latch h other
  pool {g t} h frame _ := by
    have before : Latched src t := h.of_monitor_eq (frame .monitor (by decide))
    exact Latched.alertEval ((before.handLevel .poolLow t.poolLow).of_monitor_eq (poolEval_monitor t))
  prompts p h := h.of_monitor_eq (promptEgress_allBut _ p .monitor (by decide))
  aside frame h := h.of_monitor_eq (frame .monitor (by decide))

theorem settle_latched {src : Source} {g : Gateway} (h : Latched src g) : Latched src g.settle :=
  (latched_steadyAside src).toSteady.settle h

/-! ## Prompts (R87) -/

theorem promptIf_of_holding {q : Port} {c : DecisionRecord → Bool} {timer : Nat} {retest : Bool} {r : DecisionRecord}
    (role : q.role = .holding timer retest) (record : q.record = some r) :
    (Port.promptIf c q).role = .holding timer (retest || c r) := by
  unfold Port.promptIf
  simp only [role, record]
  cases prompted : c r
  · simpa using role
  · simp

theorem promptIf_of_free {q : Port} {c : DecisionRecord → Bool} (free : q.isHolding = false ∨ q.record = none) :
    Port.promptIf c q = q := by
  unfold Port.promptIf
  split
  · rename_i role record
    rcases free with free | free
    · simp [Port.isHolding, role] at free
    · rw [record] at free
      cases free
  · rfl

theorem promptIf_never (q : Port) : Port.promptIf (fun _ => false) q = q := by
  unfold Port.promptIf
  split <;> rfl

/-- Two prompts are one, of a hold that meets either condition. -/
theorem promptIf_promptIf (c d : DecisionRecord → Bool) (q : Port) :
    Port.promptIf d (Port.promptIf c q) = Port.promptIf (fun r => c r || d r) q := by
  by_cases holds : q.isHolding = false ∨ q.record = none
  · rw [promptIf_of_free holds, promptIf_of_free holds, promptIf_of_free holds]
  · push Not at holds
    obtain ⟨r, record⟩ := Option.ne_none_iff_exists'.mp holds.2
    obtain ⟨timer, retest, role⟩ : ∃ timer retest, q.role = .holding timer retest := by
      cases role : q.role <;> simp [Port.isHolding, role] at holds ⊢
    rw [promptIf_eq d, promptIf_of_holding (promptIf_of_holding role record) (by rw [promptIf_record, record]),
      promptIf_eq c, promptIf_eq (fun r => c r || d r), promptIf_of_holding role record,
      promptIf_of_holding role record, Bool.or_assoc]

theorem modBoth_port (g : Gateway) (f : Port → Port) (p : PortId) :
    ((g.modPort .a f).modPort .b f).port p = f (g.port p) := by
  cases p <;> rfl

/-! ## TICK (R41, R54, R87, R103, R149) -/

/-- The credit of a meter rises at a tick (R103). -/
def Gateway.raises (g : Gateway) (k : Nat) : Bool :=
  decide ((g.meter k).credit.toNat < (g.meter k).refilled.credit.toNat)

/-- The record is of a FORWARD frame and names one of the first `n` meters, which a tick raises. -/
def Gateway.raisedBelow (g : Gateway) (n : Nat) (r : DecisionRecord) : Bool :=
  (List.range n).any fun k => r.forwards && decide (r.meter = some k) && g.raises k

theorem refill_meter (g : Gateway) (k j : Nat) :
    (g.refill k).meter j = if j = k then (g.meter j).refilled else g.meter j := by
  have meters : (g.refill k).meters = g.meters.set k (g.meter k).refilled := by
    unfold Gateway.refill
    dsimp only
    split
    · exact promptMeter_meters _ k
    · rfl
  rw [Gateway.meter, meters, getD_set]
  by_cases same : j = k
  · subst same
    rw [if_pos rfl]
    split
    · rfl
    · rename_i outside
      have none : g.meter j = Meter.reset := by
        have beyond : g.meters.length ≤ j := by omega
        simp [Gateway.meter, List.getD_eq_getElem?_getD, List.getElem?_eq_none beyond]
      show g.meter j = (g.meter j).refilled
      rw [none]
      rfl
  · rw [if_neg fun both => same both.1, if_neg same]
    rfl

theorem refill_port (g : Gateway) (k : Nat) (p : PortId) :
    (g.refill k).port p =
      Port.promptIf (fun r => r.forwards && decide (r.meter = some k) && g.raises k) (g.port p) := by
  unfold Gateway.refill
  dsimp only
  split <;> rename_i rises
  · have raises : g.raises k = true := decide_eq_true rises
    simp only [raises, Bool.and_true]
    exact modBoth_port _ _ p
  · have raises : g.raises k = false := decide_eq_false rises
    simp only [raises, Bool.and_false, promptIf_never]
    cases p <;> rfl

theorem raises_of_meter {g h : Gateway} {k : Nat} (same : h.meter k = g.meter k) : h.raises k = g.raises k := by
  rw [Gateway.raises, same]
  rfl

/-- The meters and the ports after the first `n` meters are refilled. -/
theorem foldl_refill (g : Gateway) (n : Nat) :
    (∀ k, ((List.range n).foldl Gateway.refill g).meter k = if k < n then (g.meter k).refilled else g.meter k) ∧
      ∀ p, ((List.range n).foldl Gateway.refill g).port p = Port.promptIf (g.raisedBelow n) (g.port p) := by
  refine foldl_range_induction (P := fun n (t : Gateway) =>
    (∀ k, t.meter k = if k < n then (g.meter k).refilled else g.meter k) ∧
      ∀ p, t.port p = Port.promptIf (g.raisedBelow n) (g.port p)) ?_ n ?_
  · exact ⟨fun k => by simp, fun p => (promptIf_never _).symm⟩
  · rintro n - t ⟨meters, ports⟩
    constructor
    · intro k
      rw [refill_meter, meters k]
      by_cases now : k = n
      · subst now
        simp
      · have later : k < n + 1 ↔ k < n := by omega
        simp only [now, later, if_false]
    · intro p
      have same : t.meter n = g.meter n := by rw [meters n, if_neg (Nat.lt_irrefl n)]
      rw [refill_port, ports p, promptIf_promptIf, raises_of_meter same]
      congr 1
      funext r
      simp [Gateway.raisedBelow, List.range_succ]

/-- Both ports at a tick, before the meters are refilled (R41, R54). -/
def Gateway.aged (g : Gateway) : Gateway :=
  (g.modPort .a Port.tick).modPort .b Port.tick

theorem aged_port (g : Gateway) (p : PortId) : g.aged.port p = (g.port p).tick := modBoth_port g _ p

theorem tick_eq {g : Gateway} (running : g.phase = .running) :
    g.tick = { (List.range 16).foldl Gateway.refill g.aged with
      store := ((List.range 16).foldl Gateway.refill g.aged).store.tick } :=
  if_pos running

theorem tick_of_running {g : Gateway} (running : g.phase = .running) :
    (∀ k < 16, g.tick.meter k = (g.meter k).refilled) ∧
      (∀ p, g.tick.port p = Port.promptIf (g.raisedBelow 16) (g.port p).tick) ∧ g.tick.store = g.store.tick := by
  obtain ⟨meters, ports⟩ := foldl_refill g.aged 16
  have refilled := foldl_refill_allBut (List.range 16) g.aged
  have stored : ((List.range 16).foldl Gateway.refill g.aged).store = g.store := refilled .store (by decide)
  rw [tick_eq running]
  refine ⟨fun k small => (meters k).trans (if_pos small), fun p => ?_, by rw [stored]⟩
  have port := ports p
  rw [aged_port] at port
  rw [show g.raisedBelow 16 = g.aged.raisedBelow 16 from rfl, ← port]
  cases p <;> rfl

theorem refilled_frame (m : Meter) : m.refilled.control = m.control ∧ m.refilled.rate = m.rate ∧ m.refilled.burst = m.burst := by
  unfold Meter.refilled
  split <;> exact ⟨rfl, rfl, rfl⟩

/-- Settles O11, by the meters and the prompts that the refills of the 16 meters leave. -/
theorem tickRefillsMeters : Obligations.TickRefillsMeters := by
  intro s k p running _ small
  refine exec_of_effect (c := .tick) ⟨rfl, ?_⟩
  obtain ⟨meters, ports, -⟩ := tick_of_running running
  obtain ⟨control, rate, burst⟩ := refilled_frame (s.gw.meter k)
  simp only [effect, meters k small]
  refine ⟨control, rate, burst, refilled_credit _, fun disabled => ?_, ?_, ?_⟩
  · rw [Meter.refilled, if_neg (by simp [disabled])]
  · intro timer retest r role record
    have prompted : (s.gw.tick.port p).role = .holding timer (retest || s.gw.raisedBelow 16 r) := by
      rw [ports p]
      exact promptIf_of_holding (q := (s.gw.port p).tick) role record
    constructor
    · intro forward meter
      refine prompted.trans (congrArg _ (congrArg _ ?_))
      rw [Bool.eq_iff_iff]
      simp only [Gateway.raisedBelow, List.any_eq_true, List.mem_range, Bool.and_eq_true, decide_eq_true_eq, meter,
        DecisionRecord.forwards, forward, Option.some.injEq, true_and]
      constructor
      · rintro ⟨j, -, rfl, raises⟩
        exact of_decide_eq_true raises
      · intro raises
        exact ⟨k, small, rfl, decide_eq_true raises⟩
    · intro other
      refine prompted.trans (congrArg _ ?_)
      have still : s.gw.raisedBelow 16 r = false := by
        simp only [Gateway.raisedBelow, List.any_eq_false, List.mem_range]
        intro j below named
        simp only [Bool.and_eq_true, decide_eq_true_eq, DecisionRecord.forwards] at named
        rcases other with other | other
        · exact other named.1.1
        · exact other j below named.1.2
      rw [still, Bool.or_false]
  · intro free
    rw [ports p, promptIf_of_free (q := (s.gw.port p).tick) free]
    rfl

theorem store_tick_eq (s : Store) : s.tick = { s with timer := s.timer + if s.state = .sIdle then 0 else 1 } := by
  obtain ⟨pages, inFlight, state, timer, last, page, word, buffer⟩ := s
  cases state <;> rfl

/-- Settles O12, by what a tick does to a port, its prompts apart, and to the store. -/
theorem tickAgesAndCounts : Obligations.TickAgesAndCounts := by
  intro s p
  refine exec_of_effect (c := .tick) ⟨rfl, fun still => ?_, fun running => ?_⟩
  · exact if_neg still
  · obtain ⟨-, ports, store⟩ := tick_of_running running
    have port : s.gw.tick.port p = { (s.gw.port p).tick with role := (s.gw.tick.port p).role } := by
      rw [ports p]
      exact promptIf_eq _ _
    refine ⟨tick_allBut s.gw, ?_, ?_, ?_⟩
    · show s.gw.tick.port p = _
      have due : (s.gw.tick.port p).linkDue = (s.gw.port p).tick.linkDue := by rw [port]
      dsimp only [effect]
      rw [due]
      exact port
    · show (s.gw.tick.port p).linkDue = true ↔ _ ≤ (s.gw.tick.port p).linkCount ∧ _
      have count : (s.gw.tick.port p).linkCount = (s.gw.port p).tick.linkCount := by rw [port]
      have due : (s.gw.tick.port p).linkDue = (s.gw.port p).tick.linkDue := by rw [port]
      rw [due, count]
      simp [Port.tick, Port.fault]
    · show s.gw.tick.store = _
      rw [store, store_tick_eq]

/-! ## The link supervisors (R40, R41) -/

/-- Settles O13, by the change of a condition and what it does to the count. -/
theorem lineFaultRestartsCount : Obligations.LineFaultRestartsCount := by
  intro s p cause present
  refine exec_of_effect (c := .lineFaultChange p cause present) ⟨rfl, modPort_allBut s.gw p _, ?_⟩
  have port : (effect (.lineFaultChange p cause present) s.gw).port p = (s.gw.port p).setFault cause present :=
    Gateway.port_modPort_self _ _ _
  simp only [port]
  cases cause
  · by_cases same : (present || (s.gw.port p).stuckDominant) = ((s.gw.port p).noBias || (s.gw.port p).stuckDominant) <;>
      simp [Port.setFault, Port.fault, same]
  · by_cases same : ((s.gw.port p).noBias || present) = ((s.gw.port p).noBias || (s.gw.port p).stuckDominant) <;>
      simp [Port.setFault, Port.fault, same]

/-- A level that differs from the history is recorded, and latched when the edge select names the edge (R171). -/
theorem evalLevel_latched {g : Gateway} {c : Level} {v : Bool} (edge : g.monitor.history.get c ≠ v)
    (named : edgeLatches g.general.edgeSelect c v = true) : Latched c.source (g.evalLevel c v) := by
  refine Latched.alertEval (g := g.handLevel c v) ?_
  have monitor : (g.handLevel c v).monitor =
      ({ g.monitor with history := g.monitor.history.set c v } : Monitor).setFlag c.source := by
    show g.monitor.handLevel _ _ _ = _
    rw [Monitor.handLevel, if_neg edge]
    exact if_pos named
  have flag (flags mask : Word) : (flags ||| mask) &&& mask = mask := by
    rw [BitVec.or_comm, or_and_of_and _ _ _ BitVec.and_self]
  rw [Latched, monitor]
  exact ⟨flag _ _, flag _ _⟩

/-- The port after a due rise of its link level, and the other port's prompt (R19, R41, R87). -/
def Gateway.linkRaised (g : Gateway) (p : PortId) : Gateway :=
  if (g.port p).state = .linkDown then (g.modPort p Port.raiseLink).promptActive p else g.modPort p Port.raiseLink

theorem linkUp_of_due {g : Gateway} {p : PortId} (follows : (g.port p).state ≠ .starting) (due : (g.port p).linkDue = true)
    (down : (g.port p).linkUp = false) :
    effect (.linkUp p) g = ((g.linkRaised p).evalLevel (.link p) true).settle := by
  have takes : (g.port p).follows = true ∧ (g.port p).linkDue = true ∧ ¬ (g.port p).linkUp = true := by
    simp [Port.follows, follows, due, down]
  simp only [effect, Gateway.linkUp]
  rw [if_pos takes]
  rfl

theorem linkRaised_port (g : Gateway) (p : PortId) : (g.linkRaised p).port p = (g.port p).raiseLink := by
  unfold Gateway.linkRaised
  split <;> simp [Gateway.promptActive]

theorem linkRaised_allBut (g : Gateway) (p : PortId) : AllBut [.portA, .portB] g (g.linkRaised p) := by
  unfold Gateway.linkRaised
  split
  · exact (modPort_allBut_ports g p _).trans (modPort_allBut_ports _ _ _)
  · exact modPort_allBut_ports g p _

/-- What a due rise of the link level leaves, with the notice and the selections that follow (R41, R57, R177). -/
theorem linkRaised_settle (g : Gateway) (p : PortId) (t : Gateway)
    (outcome : ((g.linkRaised p).evalLevel (.link p) true).settle = t) :
    AllBut endParts g t ∧ (g.linkRaised p).Serves t ∧ LevelOk (.link p) t ∧
      (g.monitor.history.get (.link p) = false → edgeLatches g.general.edgeSelect (.link p) true = true →
        Latched (.link p) t) := by
  subst outcome
  have raised := linkRaised_allBut g p
  have general : (g.linkRaised p).general = g.general := raised .general (by decide)
  have monitor : (g.linkRaised p).monitor = g.monitor := raised .monitor (by decide)
  have evaluated := evalLevel_allBut_endParts (g.linkRaised p) (.link p) true
  have level : LevelOk (.link p) ((g.linkRaised p).evalLevel (.link p) true) :=
    evalLevel_levelOk (fun _ => by simp [Gateway.level, linkRaised_port, Port.raiseLink]) fun other => absurd rfl other
  refine ⟨((raised.mono (by decide)).trans evaluated).trans (settle_allBut _),
    (evalLevel_serves _ _ _).trans (settle_serves _), (levelOk_steadyAside (.link p)).toSteady.settle level,
    fun history named => settle_latched (evalLevel_latched (g := g.linkRaised p) (c := .link p) (v := true) ?_ ?_)⟩
  · rw [monitor, history]
    decide
  · rw [general]
    exact named

/-- Settles O14, by the raised level: the edge's own changes, and what the notice and the selections that follow leave of
ports, history and flag. -/
theorem linkUpActivates : Obligations.LinkUpActivates := by
  intro s p follows due down history
  refine exec_of_effect (c := .linkUp p) ⟨rfl, ?_⟩
  rw [linkUp_of_due follows due down]
  generalize outcome : ((s.gw.linkRaised p).evalLevel (.link p) true).settle = t
  obtain ⟨frame, serves, level, latched⟩ := linkRaised_settle s.gw p t outcome
  have port := linkRaised_port s.gw p
  have up : (t.port p).linkUp = true := by
    rw [(serves p).linkUp, port]
    rfl
  have state : (t.port p).state = (s.gw.port p).raiseLink.state := by rw [(serves p).state, port]
  have view : (t.port p).view = (s.gw.port p).view := by
    rw [(serves p).view, port]
    rfl
  refine ⟨up, state, view, Eq.trans level up, latched history, fun timer retest r wasDown role record forward => ?_,
    frame.mono (by decide)⟩
  refine (serves p.other).role.of_prompted ?_
  have prompted : (s.gw.linkRaised p).port p.other = Port.promptIf DecisionRecord.forwards (s.gw.port p.other) := by
    rw [Gateway.linkRaised, if_pos wasDown, Gateway.promptActive, Gateway.port_modPort_self, Gateway.port_modPort_other]
  rw [prompted, promptIf_of_holding role record]
  simp [DecisionRecord.forwards, forward]

theorem evalLevel_of_noticeOff {g : Gateway} (off : g.general.noticeEnable = false) (c : Level) (v : Bool) :
    AllBut [.monitor] g (g.evalLevel c v) := by
  refine (handLevel_allBut g c v).trans ?_
  unfold Gateway.evalLevel
  rw [alertEval_of_noticeOff _ (by simpa using off)]
  exact .of_same fun x => by cases x <;> simp [Part.Same]

theorem linkDown_of_due {g : Gateway} {p : PortId} (follows : (g.port p).state ≠ .starting) (due : (g.port p).linkDue = true)
    (up : (g.port p).linkUp = true) :
    effect (.linkDown p) g = ((g.modPort p Port.dropLink).evalLevel (.link p) false).settle := by
  have takes : (g.port p).follows = true ∧ (g.port p).linkDue = true ∧ (g.port p).linkUp = true := by
    simp [Port.follows, follows, due, up]
  simp only [effect, Gateway.linkDown]
  rw [if_pos takes]

/-- What an ACTIVE port keeps and drops at a fall of its link level (R19, R20, R28, R35). -/
theorem dropLink_values {q : Port} (active : q.state = .active) :
    q.dropLink.state = .linkDown ∧ q.dropLink.linkUp = false ∧ q.dropLink.slot = q.slot ∧
      q.dropLink.attempts = q.attempts ∧ q.dropLink.urgent = q.urgent ∧ q.dropLink.normal = q.normal ∧
      q.dropLink.pause = q.pause ∧ q.dropLink.pendingPause = q.pendingPause ∧ q.dropLink.role = .nonClaimant ∧
      q.dropLink.abort = [] ∧ (q.role ≠ .nonClaimant → q.dropLink.staging = none) ∧
      ((q.tx = .tArb ∨ q.tx = .tSend ∨ q.tx = .tSlot) →
        q.dropLink.tx = .tWaitIdle ∧ q.dropLink.view = .resync 0 ∧ q.dropLink.rx = .rIdle) ∧
      (¬ (q.tx = .tArb ∨ q.tx = .tSend ∨ q.tx = .tSlot) →
        q.dropLink.tx = q.tx ∧ q.dropLink.view = q.view ∧ q.dropLink.rx = q.rx) := by
  unfold Port.dropLink
  dsimp only
  rw [if_pos active]
  unfold Port.endClaim Port.stopSending
  dsimp only
  cases role : q.role <;> cases tx : q.tx <;> simp [TxState.onLine]

/-- Settles O15, by what the dropped link leaves of its port; with notices off and nothing to select no more follows. -/
theorem linkDownAbandons : Obligations.LinkDownAbandons := by
  intro s p active due up off settled
  refine exec_of_effect (c := .linkDown p) ⟨rfl, ?_⟩
  rw [linkDown_of_due (by simp [active]) due up]
  have dropped := modPort_allBut s.gw p Port.dropLink
  have general : (s.gw.modPort p Port.dropLink).general = s.gw.general := dropped .general (by cases p <;> decide)
  have evaluated : AllBut [.monitor] (s.gw.modPort p Port.dropLink) _ :=
    evalLevel_of_noticeOff (g := s.gw.modPort p Port.dropLink) (by rw [general]; exact off) (.link p) false
  have values := dropLink_values active
  have still : ((s.gw.modPort p Port.dropLink).evalLevel (.link p) false).Settled := by
    have before : (s.gw.modPort p Port.dropLink).Settled :=
      modPort_settled p settled fun _ => Port.settled_of_inactive (by rw [values.1]; decide)
    exact settled_of_same (evaluated .portA (by decide)) (evaluated .portB (by decide)) before
  have port : ((s.gw.modPort p Port.dropLink).evalLevel (.link p) false).port p = (s.gw.port p).dropLink := by
    rw [port_of_allBut evaluated (by decide) (by decide), Gateway.port_modPort_self]
  rw [settle_of_settled _ still, port]
  exact ⟨(dropped.mono (by simp)).trans (evaluated.mono (by simp)), values⟩

/-! ## The line (R3, R4, R6, R8, R24, R25) -/

/-- Settles O16, by the views the recessive bit times move. -/
theorem elevenRecessiveBitsIdle : Obligations.ElevenRecessiveBitsIdle := by
  intro s p bits
  have heard : (s.gw.port p).state ≠ .starting →
      effect (.busIdle p bits) s.gw = s.gw.modPort p (Port.hearRecessive bits) := by
    intro follows
    simp [effect, Gateway.busIdle, Port.follows, follows]
  by_cases starting : (s.gw.port p).state = .starting
  · have still : effect (.busIdle p bits) s.gw = s.gw := by
      simp [effect, Gateway.busIdle, Port.follows, starting]
    refine exec_of_effect (c := .busIdle p bits) ⟨rfl, ?_, fun _ => still, fun follows => absurd starting follows⟩
    rw [still]
    exact .refl _ _
  · refine exec_of_effect (c := .busIdle p bits) ⟨rfl, ?_, fun bad => absurd bad starting, fun _ => ?_⟩
    · rw [heard starting]
      exact modPort_allBut _ p _
    · rw [heard starting, Gateway.port_modPort_self, Port.hearRecessive]
      congr 1
      unfold LineView.recessive
      cases (s.gw.port p).view <;> dsimp only <;> split <;> first | rfl | (rw [if_neg (by omega)]) | (rw [if_pos (by omega)])

/-- Settles O17, by the view a dominant bit is read in. -/
theorem startBitOpensFrame : Obligations.StartBitOpensFrame := by
  intro s p
  by_cases starting : (s.gw.port p).state = .starting
  · have still : effect (.startBit p) s.gw = s.gw := by
      simp [effect, Gateway.startBit, Port.follows, starting]
    refine exec_of_effect (c := .startBit p) ⟨rfl, ?_, fun _ => still, fun follows => absurd starting follows⟩
    rw [still]
    exact .refl _ _
  · have read : effect (.startBit p) s.gw = s.gw.modPort p Port.startBit := by
      simp [effect, Gateway.startBit, Port.follows, starting]
    refine exec_of_effect (c := .startBit p) ⟨rfl, ?_, fun bad => absurd bad starting, fun _ => ?_⟩
    · rw [read]
      exact modPort_allBut _ p _
    · rw [read, Gateway.port_modPort_self, Port.startBit]
      cases (s.gw.port p).view <;> rfl

/-- Settles O18, by what an abandoned frame leaves; both commands are the one event of a frame found broken. -/
theorem brokenFramesAreAbandoned : Obligations.BrokenFramesAreAbandoned := by
  intro s p length c long commands
  have broken : effect c s.gw = s.gw.abandonFrame p := by
    simp only [List.mem_cons, List.not_mem_nil, or_false] at commands
    rcases commands with rfl | rfl
    · rfl
    · simp [effect, Gateway.lengthOutOfRange, long]
  refine exec_of_effect (c := c) ⟨rfl, ?_, fun follows frame => ?_, fun other => ?_⟩
  · rw [broken]
    unfold Gateway.abandonFrame
    split
    · exact ((modPort_allBut _ p _).mono (by simp)).trans ((bump_allBut _ _ _).mono (by simp))
    · exact .refl _ _
  · have taken : effect c s.gw = (s.gw.modPort p Port.abandonFrame).count p .rxFormat := by
      rw [broken, Gateway.abandonFrame, if_pos (by simp [Port.receiving, Port.follows, follows, frame])]
    rw [taken]
    refine ⟨?_, by rw [Gateway.port_count, Gateway.port_modPort_self]; rfl⟩
    simp [Counted]
  · rw [broken, Gateway.abandonFrame, if_neg]
    rcases other with starting | other
    · simp [Port.receiving, Port.follows, starting]
    · simp [Port.receiving, other]

/-- Settles O21, by the end of a slot that is not a PAUSE frame's. -/
theorem endDelimiterEndsSlot : Obligations.EndDelimiterEndsSlot := by
  intro s p follows slot noPause
  have ends : effect (.endDelimiter p) s.gw = if (s.gw.port p).isHolding then s.gw else s.gw.modPort p Port.endSlot := by
    simp only [effect, Gateway.endDelimiter, noPause]
    cases holds : (s.gw.port p).isHolding <;> simp [Port.slotEnds, Port.follows, follows, slot, holds]
  refine exec_of_effect (c := .endDelimiter p) ⟨rfl, ?_, fun holds => ?_, fun free => ?_⟩
  · rw [ends]
    split
    · exact .refl _ _
    · exact modPort_allBut _ p _
  · rw [ends, if_pos holds]
  · rw [ends, if_neg (by simp [free]), Gateway.port_modPort_self]
    rfl

end Sys2Proof.Machine
end

section
/-! SUPPORT. The wire and what a completed frame meets before it is classified (R3 to R9, R17, R18, R20, R24, R25, R36,
R180). -/

open Sys2Proof

namespace Sys2Proof.Machine

/-! ## The bytes of a frame (R7, R180) -/

theorem extractLsb'_halves {n : Nat} (w : BitVec (n + n)) : w.extractLsb' n n ++ w.extractLsb' 0 n = w := by
  apply BitVec.eq_of_getLsbD_eq
  intro i inside
  simp only [BitVec.getLsbD_append, BitVec.getLsbD_extractLsb']
  by_cases low : i < n
  · simp [low]
  · have high : i - n < n := by omega
    simp [low, high, Nat.add_sub_cancel' (Nat.not_lt.mp low)]

theorem wordOf_bytes (w : Word) : wordOf (highByte w) (lowByte w) = w := extractLsb'_halves (n := 8) w

theorem control_fields : ∀ (kind hop : BitVec 3) (tagged spare : Bool),
    (kind ++ BitVec.ofBool tagged ++ hop ++ BitVec.ofBool spare : Byte).extractLsb' 5 3 = kind ∧
      (kind ++ BitVec.ofBool tagged ++ hop ++ BitVec.ofBool spare : Byte).extractLsb' 1 3 = hop ∧
      (kind ++ BitVec.ofBool tagged ++ hop ++ BitVec.ofBool spare : Byte).getLsbD 0 = spare ∧
      (kind ++ BitVec.ofBool tagged ++ hop ++ BitVec.ofBool spare : Byte).getLsbD 4 = tagged := by
  decide

theorem controlByte_fields (f : Frame) :
    f.controlByte.extractLsb' 5 3 = f.kind ∧ f.controlByte.extractLsb' 1 3 = f.hop ∧ f.controlByte[0] = f.spare ∧
      f.controlByte[4] = f.tag.isSome := by
  obtain ⟨kind, hop, spare, tagged⟩ := control_fields f.kind f.hop f.tag.isSome f.spare
  rw [← BitVec.getLsbD_eq_getElem, ← BitVec.getLsbD_eq_getElem]
  exact ⟨kind, hop, spare, tagged⟩

theorem lengthByte_toNat {f : Frame} (fits : f.fits = true) : f.lengthByte.toNat = f.payload.length := by
  have small : f.payload.length ≤ 96 := of_decide_eq_true fits
  simp only [Frame.lengthByte, BitVec.toNat_ofNat]
  omega

/-- The bytes of a frame that fits give it back (R7, R180). -/
theorem ofBytes_bytes {f : Frame} (fits : f.fits = true) : Frame.ofBytes f.bytes = some f := by
  obtain ⟨kinds, hops, spares, tagged⟩ := controlByte_fields f
  have length := lengthByte_toNat fits
  have small : f.payload.length ≤ 96 := of_decide_eq_true fits
  obtain ⟨dest, src, service, kind, hop, spare, tag, payload⟩ := f
  dsimp only at kinds hops spares tagged length small
  cases tag with
  | none =>
    have ok : frameLengthOk (Frame.bytes ⟨dest, src, service, kind, hop, spare, none, payload⟩) = true := by
      simp [frameLengthOk, Frame.bytes, Frame.header, Frame.tagBytes, wordBytes, tagged, length, small]
      omega
    rw [Frame.ofBytes, if_pos ok]
    simp [Frame.bytes, Frame.header, Frame.tagBytes, wordBytes, kinds, hops, spares, tagged, wordOf_bytes]
  | some t =>
    have ok : frameLengthOk (Frame.bytes ⟨dest, src, service, kind, hop, spare, some t, payload⟩) = true := by
      simp [frameLengthOk, Frame.bytes, Frame.header, Frame.tagBytes, wordBytes, tagged, length, small]
      omega
    have halves : t.extractLsb' 16 16 ++ t.extractLsb' 0 16 = t := extractLsb'_halves (n := 16) t
    rw [Frame.ofBytes, if_pos ok]
    simp [Frame.bytes, Frame.header, Frame.tagBytes, wordBytes, kinds, hops, spares, tagged, wordOf_bytes, halves]

/-! ## Stuff bits (R5, R6) -/

/-- The length of the run that ends with a bit, after a run of `run` bits equal to `last`. -/
def nextRun (last : Bool) (run : Nat) (b : Bool) : Nat :=
  if b = last then run + 1 else 1

theorem stuffFrom_cons (last : Bool) (run : Nat) (b : Bool) (bits : List Bool) :
    stuffFrom last run (b :: bits) =
      if nextRun last run b = 5 then b :: (!b) :: stuffFrom (!b) 1 bits else b :: stuffFrom b (nextRun last run b) bits :=
  rfl

theorem destuffFrom_cons (last : Bool) (run : Nat) (b : Bool) (bits : List Bool) :
    destuffFrom last run (b :: bits) =
      if run = 5 then if b = last then none else destuffFrom b 1 bits
      else (destuffFrom b (nextRun last run b) bits).map (b :: ·) :=
  rfl

theorem nextRun_le (last : Bool) {run n : Nat} (short : run < n) (b : Bool) : nextRun last run b ≤ n := by
  unfold nextRun
  split <;> omega

theorem destuffFrom_stuffFrom (bits : List Bool) (last : Bool) (run : Nat) (short : run < 5) :
    destuffFrom last run (stuffFrom last run bits) = some bits := by
  induction bits generalizing last run with
  | nil => rfl
  | cons b bits ih =>
    have next := nextRun_le last short b
    rw [stuffFrom_cons]
    split
    · rename_i full
      rw [destuffFrom_cons, if_neg (by omega), full, destuffFrom_cons, if_pos rfl, if_neg (by cases b <;> decide),
        ih (!b) 1 (by decide)]
      rfl
    · rw [destuffFrom_cons, if_neg (by omega), ih b _ (by omega)]
      rfl

/-- A run that reaches six equal bits is a symbol error (R6). -/
theorem destuffFrom_run (b : Bool) (run more : Nat) (after : List Bool) (long : 6 ≤ run + more) (short : run ≤ 5) :
    destuffFrom b run (List.replicate more b ++ after) = none := by
  induction more generalizing run with
  | zero => omega
  | succ more ih =>
    rw [List.replicate_succ, List.cons_append, destuffFrom_cons]
    split
    · rw [if_pos rfl]
    · rw [nextRun, if_pos rfl, ih (run + 1) (by omega) (by omega)]
      rfl

/-- Six equal bits are a symbol error wherever they stand (R6). -/
theorem destuffFrom_six (before after : List Bool) (b last : Bool) (run : Nat) (short : run ≤ 5) :
    destuffFrom last run (before ++ (List.replicate 6 b ++ after)) = none := by
  induction before generalizing last run with
  | nil =>
    by_cases same : b = last
    · subst same
      exact destuffFrom_run b run 6 after (by omega) short
    · have rest := destuffFrom_run b 1 5 after (by decide) (by decide)
      show destuffFrom last run (b :: (List.replicate 5 b ++ after)) = none
      rw [destuffFrom_cons, if_neg same, nextRun, if_neg same, rest]
      split <;> rfl
  | cons x before ih =>
    rw [List.cons_append, destuffFrom_cons]
    split
    · split
      · rfl
      · exact ih x 1 (by decide)
    · rw [ih x _ (nextRun_le last (by omega) x)]
      rfl

theorem destuff_six (before after : List Bool) (b : Bool) : destuff (before ++ (List.replicate 6 b ++ after)) = none :=
  destuffFrom_six before after b true 0 (by decide)

/-- Settles O60, by the round trips of the bytes and of the stuff bits, and by what six equal bits are to a receiver. -/
theorem sentFrameIsReadBack : Obligations.SentFrameIsReadBack := by
  refine ⟨fun f fits => ofBytes_bytes fits, fun bytes => ?_⟩
  have read : destuff (Attempt.of bytes).lineBits = some (frameBits bytes (crc bytes)) :=
    destuffFrom_stuffFrom _ true 0 (by decide)
  refine ⟨read, fun b before after same => ?_⟩
  rw [same, List.append_assoc, destuff_six] at read
  cases read

/-! ## Receive completion (R8, R24, R25) -/

theorem receiveCompletion_of_frame {g : Gateway} {p : PortId} {f : Frame} (fits : f.fits = true)
    (follows : (g.port p).state ≠ .starting) (frame : (g.port p).rx = .rFrame) (check : Word) :
    effect (.receiveCompletion p f.bytes check) g = (g.complete p f check).settle := by
  simp only [effect, Gateway.receiveCompletion, ofBytes_bytes fits]
  rw [if_pos (by simp [Port.receiving, Port.follows, follows, frame])]

/-- The frame stands in staging, in its slot (R24). -/
def Gateway.staged (g : Gateway) (p : PortId) (f : Frame) (check : Word) : Gateway :=
  g.modPort p (·.stage f check)

theorem staged_port (g : Gateway) (p : PortId) (f : Frame) (check : Word) :
    (g.staged p f check).port p = (g.port p).stage f check :=
  Gateway.port_modPort_self _ _ _

theorem staged_allBut (g : Gateway) (p : PortId) (f : Frame) (check : Word) : AllBut [portPart p] g (g.staged p f check) :=
  modPort_allBut g p _

theorem staged_settled {g : Gateway} (h : g.Settled) (p : PortId) (f : Frame) (check : Word) :
    (g.staged p f check).Settled :=
  modPort_settled p h fun port => Port.settled_congr rfl rfl rfl rfl id id port

theorem complete_of_checkError {g : Gateway} {p : PortId} {f : Frame} {check : Word} (error : crc f.bytes ≠ check) :
    g.complete p f check = ((g.staged p f check).count p .rxCheck).latch (.check p) := by
  have judged : f.judge check = .checkError := by simp [Frame.judge, error]
  simp only [Gateway.complete, judged]
  rfl

theorem complete_of_illegal {g : Gateway} {p : PortId} {f : Frame} (illegal : f.illegal = true) :
    g.complete p f (crc f.bytes) = (g.staged p f (crc f.bytes)).count p .rxFormat := by
  have judged : f.judge (crc f.bytes) = .illegal := by simp [Frame.judge, illegal]
  simp only [Gateway.complete, judged]
  rfl

/-- A good frame counted, in staging (R25). -/
def Gateway.received (g : Gateway) (p : PortId) (f : Frame) : Gateway :=
  (g.staged p f (crc f.bytes)).count p .rxGood

theorem received_port (g : Gateway) (p : PortId) (f : Frame) :
    (g.received p f).port p = (g.port p).stage f (crc f.bytes) := by
  rw [Gateway.received, Gateway.port_count, staged_port]

theorem received_other (g : Gateway) (p : PortId) (f : Frame) : (g.received p f).port p.other = g.port p.other := by
  rw [Gateway.received, Gateway.port_count, Gateway.staged, Gateway.port_modPort_other]

theorem received_allBut (g : Gateway) (p : PortId) (f : Frame) : AllBut [portPart p, .counters] g (g.received p f) :=
  ((staged_allBut g p f _).mono (by simp)).trans ((bump_allBut _ _ _).mono (by simp))

theorem received_settled {g : Gateway} (h : g.Settled) (p : PortId) (f : Frame) : (g.received p f).Settled :=
  count_settled p .rxGood (staged_settled h p f _)

theorem received_counted (g : Gateway) (p : PortId) (f : Frame) :
    Counted (portCounterIndex p .rxGood) g (g.received p f) := by
  simp [Counted, Gateway.received, Gateway.staged]

theorem complete_of_good {g : Gateway} {p : PortId} {f : Frame} (legal : f.illegal = false) :
    g.complete p f (crc f.bytes) =
      if (g.port p).state = .active then (g.received p f).classify p f else g.received p f := by
  have judged : f.judge (crc f.bytes) = .good := by simp [Frame.judge, legal]
  have state : ((g.received p f).port p).state = (g.port p).state := by rw [received_port]; rfl
  simp only [Gateway.complete, judged, ← state]
  rfl

theorem Gateway.Settled.nothingAged {g : Gateway} (h : g.Settled) : g.NothingAged :=
  fun x => (h.port x).nothingAged

/-- A report in an event that gives the selections nothing to take but the notice it may ask for (R57, R170, R177). -/
theorem latch_settle {g : Gateway} (settled : g.Settled) (src : Source) :
    AllBut latchParts g (g.latch src).settle ∧ Latched src (g.latch src).settle ∧ g.Serves (g.latch src).settle := by
  obtain ⟨frame, -⟩ :=
    settle_of_nothingAged (g.latch src) ((latch_sendsOnly g src).keeps_nothingAged settled.nothingAged)
  exact ⟨(latch_allBut g src).trans (frame.mono (by decide)), settle_latched (latch_latched g src),
    (latch_serves g src).trans (settle_serves _)⟩

/-- Settles O19, by what a frame with a bad check, and one with illegal contents, leave. -/
theorem badFramesAreNotClaimed : Obligations.BadFramesAreNotClaimed := by
  intro s p f check fits follows frame settled bad
  refine exec_of_effect (c := .receiveCompletion p f.bytes check) ⟨rfl, ?_⟩
  rw [receiveCompletion_of_frame fits follows frame]
  by_cases error : crc f.bytes = check
  · subst error
    have illegal : f.illegal = true := bad.resolve_left fun ne => ne rfl
    have still := count_settled p .rxFormat (staged_settled settled p f (crc f.bytes))
    rw [complete_of_illegal illegal, settle_of_settled _ still]
    have port : ((s.gw.staged p f (crc f.bytes)).count p .rxFormat).port p = (s.gw.port p).stage f (crc f.bytes) := by
      rw [Gateway.port_count, staged_port]
    rw [port]
    refine ⟨rfl, rfl, rfl, rfl, fun ne => absurd rfl ne, fun _ => ⟨?_, ?_⟩⟩
    · simp [Counted, Gateway.staged]
    · exact ((staged_allBut _ p f _).mono (by simp)).trans ((bump_allBut _ _ _).mono (by simp))
  · rw [complete_of_checkError error]
    obtain ⟨others, latched, serves⟩ := latch_settle
      (count_settled p .rxCheck (staged_settled settled p f check)) (.check p)
    generalize (((s.gw.staged p f check).count p .rxCheck).latch (.check p)).settle = t at others latched serves ⊢
    have port := serves p
    rw [Gateway.port_count, staged_port] at port
    refine ⟨port.rx, port.view, port.role_of_free rfl, port.record, fun _ => ⟨?_, latched, ?_⟩, fun same => absurd same error⟩
    · have counters : t.counters = _ := others .counters (by decide)
      rw [Counted, counters]
      simp [Gateway.staged]
    · have before : AllBut (.counters :: latchParts) s.gw ((s.gw.staged p f check).count p .rxCheck) :=
        ((staged_allBut _ p f check).mono (by cases p <;> decide)).trans ((bump_allBut _ _ _).mono (by decide))
      exact before.trans (others.mono (by decide))

/-- Settles O20, by what a good frame leaves on a port that does not classify it. -/
theorem goodFrameOutsideActiveIsDropped : Obligations.GoodFrameOutsideActiveIsDropped := by
  intro s p f fits legal state frame settled
  have follows : (s.gw.port p).state ≠ .starting := by rcases state with state | state <;> simp [state]
  have out : (s.gw.port p).state ≠ .active := by rcases state with state | state <;> simp [state]
  refine exec_of_effect (c := .receiveCompletion p f.bytes (crc f.bytes)) ⟨rfl, ?_⟩
  rw [receiveCompletion_of_frame fits follows frame, complete_of_good legal, if_neg out,
    settle_of_settled _ (received_settled settled p f)]
  exact ⟨received_counted _ p f, received_allBut _ p f, received_port _ p f⟩

/-! ## The end delimiter of a PAUSE frame (R18, R36) -/

/-- What keeps its value through every step of a selection keeps it through the selections of an event. -/
theorem discardAged_counter {i : Nat} {p : PortId} (other : i ≠ portCounterIndex p .aged) (g : Gateway) (e : QueueEntry)
    (q : Port) : (g.discardAged p e q).counters.getD i 0 = g.counters.getD i 0 := by
  have counted : ((g.setPort p q).count p .aged).counters.getD i 0 = g.counters.getD i 0 := by
    rw [Gateway.counters_count, Gateway.counters_bump, getD_set, if_neg fun both => other both.1, Gateway.counters_setPort]
  have latched : (((g.setPort p q).count p .aged).latch (.aged p)).counters = ((g.setPort p q).count p .aged).counters :=
    latch_allBut _ _ .counters (by decide)
  have returned (h : Gateway) : (((h.giveBack 1).promptEgress p).evalPool).counters = h.counters :=
    (((giveBack_allBut h 1).mono (by decide : ∀ x ∈ [Part.portA, .portB, .free], x ∈ .agentQueue :: latchParts)).trans
      (((promptEgress_allBut _ p).mono (by decide)).trans ((evalPool_allBut _).mono (by decide)))) .counters (by decide)
  have reported (h : Gateway) : (h.reportEnd e.buf .aged).counters = h.counters := reportEnd_allBut h _ _ .counters (by decide)
  rw [Gateway.discardAged, reported, returned, latched, counted]

theorem selectFrame_counter {i : Nat} {p : PortId} (other : i ≠ portCounterIndex p .aged) (fuel : Nat) (g : Gateway) :
    (Gateway.selectFrame fuel p g).counters.getD i 0 = g.counters.getD i 0 := by
  induction fuel generalizing g with
  | zero => rfl
  | succ n ih =>
    unfold Gateway.selectFrame
    split
    · rfl
    · split
      · rw [ih, discardAged_counter other]
      · rw [Gateway.counters_setPort]

theorem selectEgress_counter {i : Nat} {p : PortId} (other : i ≠ portCounterIndex p .aged) (g : Gateway) :
    (g.selectEgress p).counters.getD i 0 = g.counters.getD i 0 := by
  have paused : (g.takePause p).counters = g.counters := takePause_allBut g p .counters (by cases p <;> decide)
  unfold Gateway.selectEgress
  dsimp only
  repeat' split
  · rw [selectFrame_counter other, paused]
  · rw [paused]
  · rfl

/-- The selections of an event count no more than AGED (R60). -/
theorem settle_counter {i : Nat} (other : ∀ x, i ≠ portCounterIndex x .aged) (g : Gateway) :
    g.settle.counters.getD i 0 = g.counters.getD i 0 := by
  rw [Gateway.settle, selectEgress_counter (other .b), selectEgress_counter (other .a), selectEgress_counter (other .b),
    selectEgress_counter (other .a)]

/-- Both commands of a PAUSE frame's end delimiter are that one event (entry 8). -/
theorem effect_pauseEnd {g : Gateway} {p : PortId} {c : Instr} {n : Nat} (command : c ∈ [Instr.pauseRx p, .endDelimiter p])
    (frame : (g.port p).pauseFrame = some n) (free : (g.port p).isHolding = false) : effect c g = g.endPause p n := by
  simp only [List.mem_cons, List.not_mem_nil, or_false] at command
  rcases command with rfl | rfl
  · simp [effect, Gateway.pauseRx, frame]
  · obtain ⟨active, slot⟩ := pauseFrame_some frame
    have ends : (g.port p).slotEnds = true := by simp [Port.slotEnds, Port.follows, active, slot, free]
    simp [effect, Gateway.endDelimiter, frame, ends]

/-- The port at the end delimiter of a PAUSE frame, counted (R18, R36). -/
def Gateway.pauseTaken (g : Gateway) (p : PortId) (n : Nat) : Gateway :=
  (g.modPort p fun q => { q.endSlot with pause := pauseOfCount n }).count p .pauseRx

theorem endPause_eq (g : Gateway) (p : PortId) (n : Nat) :
    g.endPause p n = ((g.pauseTaken p n).latch (.pauseRx p)).settle := rfl

/-- Settles O22, by what the end of the slot and the pause leave; the selections that a pause of count 0 allows count
another counter and leave the receive side. -/
theorem pauseFrameSetsPause : Obligations.PauseFrameSetsPause := by
  intro s p st r c command active slot free staging record path length
  have frame : (s.gw.port p).pauseFrame = some st.frame.pauseCount := by
    simp [Port.pauseFrame, staging, record, active, slot, path]
  refine exec_of_effect (c := c) ⟨rfl, ?_⟩
  rw [effect_pauseEnd command frame free, endPause_eq]
  have serves := (latch_serves (s.gw.pauseTaken p st.frame.pauseCount) (.pauseRx p)).trans (settle_serves _)
  have latched : Latched (.pauseRx p) _ := settle_latched (latch_latched (s.gw.pauseTaken p st.frame.pauseCount) (.pauseRx p))
  have counter := settle_counter (i := portCounterIndex p .pauseRx) (by cases p <;> rintro (_ | _) <;> decide)
    ((s.gw.pauseTaken p st.frame.pauseCount).latch (.pauseRx p))
  have counters : ((s.gw.pauseTaken p st.frame.pauseCount).latch (.pauseRx p)).counters = _ :=
    latch_allBut _ _ .counters (by decide)
  have taken : AllBut endParts s.gw (s.gw.pauseTaken p st.frame.pauseCount) :=
    (modPort_allBut_endParts _ p _).trans (bump_allBut_endParts _ _ _)
  have others := (taken.trans (latch_allBut_endParts _ (.pauseRx p))).trans (settle_allBut _)
  generalize ((s.gw.pauseTaken p st.frame.pauseCount).latch (.pauseRx p)).settle = t at serves latched counter others ⊢
  have port := serves p
  rw [Gateway.pauseTaken, Gateway.port_count, Gateway.port_modPort_self] at port
  refine ⟨?_, port.rx, port.view, port.staging, port.record, latched, ?_, others.mono (by decide)⟩
  · rw [port.pause]
    simp only [pauseOfCount, Nat.mul_comm]
  · have inside : portCounterIndex p .pauseRx < s.gw.counters.length := by
      rw [length]
      cases p <;> decide
    rw [counter, counters, Gateway.pauseTaken, Gateway.counters_count, Gateway.counters_bump, Gateway.counters_modPort,
      getD_set, if_pos ⟨rfl, inside⟩]
    rfl

end Sys2Proof.Machine
end

section
/-! SUPPORT. The decision for a good frame: the record the lookup gives, the checks of a FORWARD frame in their order, and
what a frame without room does (R17, R26, R27, R36, R66, R69, R75 to R86). -/

open Sys2Proof

namespace Sys2Proof.Machine

/-! ## Several counts (R167) -/

theorem Counted.all {i : Nat} {g t : Gateway} (h : Counted i g t) : CountedAll [i] g t := h

theorem CountedAll.snoc {is : List Nat} {i : Nat} {g h t : Gateway} (all : CountedAll is g h) (one : Counted i h t) :
    CountedAll (is ++ [i]) g t := by
  rw [CountedAll, List.foldl_append, ← show h.counters = _ from all]
  exact one

theorem CountedAll.of_counters_eq {is : List Nat} {g h t : Gateway} (all : CountedAll is g h)
    (same : t.counters = h.counters) : CountedAll is g t :=
  Eq.trans same all

/-! ## The lookup's part of the decision (R65, R66, R74 to R76) -/

/-- A good frame received and looked up: counted, in staging, and its winner's hit count one higher. -/
def Gateway.looked (g : Gateway) (p : PortId) (f : Frame) : Gateway :=
  { g.received p f with route := g.routeHit p f }

theorem looked_port (g : Gateway) (p : PortId) (f : Frame) : (g.looked p f).port p = (g.port p).stage f (crc f.bytes) := by
  rw [← received_port g p f]
  cases p <;> rfl

theorem looked_other (g : Gateway) (p : PortId) (f : Frame) : (g.looked p f).port p.other = g.port p.other := by
  rw [← received_other g p f]
  cases p <;> rfl

theorem looked_allBut (g : Gateway) (p : PortId) (f : Frame) :
    AllBut [portPart p, .route, .counters] g (g.looked p f) := by
  refine ((received_allBut g p f).mono (by simp)).trans (.of_same fun x => ?_)
  cases x <;> simp [Part.Same, Gateway.looked]

theorem looked_settled {g : Gateway} (h : g.Settled) (p : PortId) (f : Frame) : (g.looked p f).Settled :=
  received_settled h p f

theorem looked_counted (g : Gateway) (p : PortId) (f : Frame) : CountedAll [portCounterIndex p .rxGood] g (g.looked p f) :=
  received_counted g p f

theorem looked_meter (g : Gateway) (p : PortId) (f : Frame) (k : Nat) : (g.looked p f).meter k = g.meter k := by
  have meters : (g.looked p f).meters = g.meters := looked_allBut g p f .meters (by cases p <;> decide)
  simp only [Gateway.meter, meters]

theorem completion_of_receives {g : Gateway} {p : PortId} {f : Frame} (receives : g.Receives p f) :
    effect (completion p f) g = ((g.received p f).classify p f).settle := by
  obtain ⟨active, frame, fits, legal⟩ := receives
  rw [completion, receiveCompletion_of_frame fits (by simp [active]) frame, complete_of_good legal, if_pos active]

theorem received_access (g : Gateway) (p : PortId) (f : Frame) : ((g.received p f).port p).words = (g.port p).words := by
  rw [received_port]
  rfl

/-- A good PAUSE frame is silent (R17, R36). -/
theorem completion_of_pause {g : Gateway} {p : PortId} {f : Frame} (receives : g.Receives p f) (pause : f.kind = kindPause) :
    effect (completion p f) g =
      ((g.received p f).silent p (DecisionRecord.bare .pause (g.port p).words.access f)).settle := by
  rw [completion_of_receives receives, Gateway.classify]
  dsimp only
  rw [if_pos pause, received_access]

/-- The record of a management request (R66, R118). -/
def managementRecord (g : Gateway) (p : PortId) (f : Frame) (own : OwnAddress) : DecisionRecord :=
  { DecisionRecord.bare .management (g.port p).words.access f with own := some own }

theorem completion_of_takes {g : Gateway} {p : PortId} {f : Frame} {own : OwnAddress} (receives : g.Receives p f)
    (kind : f.kind ≠ kindPause) (takes : g.takes p f = some own) :
    effect (completion p f) g =
      (((g.received p f).claimManagement p (managementRecord g p f own) f).getD
        ((g.received p f).holdOrBusy p (managementRecord g p f own))).settle := by
  have general : (g.received p f).general = g.general := received_allBut g p f .general (by cases p <;> decide)
  have matched : managementMatch g.general (g.port p).words.access f = some own := takes
  rw [completion_of_receives receives, Gateway.classify]
  dsimp only
  rw [if_neg kind, received_access, general, matched]
  rfl

/-- Any other frame is decided by the record the lookup gives (R74, R76). -/
theorem completion_of_routes {g : Gateway} {p : PortId} {f : Frame} (receives : g.Receives p f) (routes : g.Routes p f) :
    effect (completion p f) g = ((g.looked p f).decideAction p (g.routeRecord p f) f).settle := by
  have general : (g.received p f).general = g.general := received_allBut g p f .general (by cases p <;> decide)
  have route : (g.received p f).route = g.route := received_allBut g p f .route (by cases p <;> decide)
  have hit : (g.received p f).routeHit p f = g.routeHit p f := by simp only [Gateway.routeHit, route]
  have record : (g.received p f).routeRecord p f = g.routeRecord p f := by
    simp only [Gateway.routeRecord, route, received_access]
  have unmatched : managementMatch g.general (g.port p).words.access f = none := routes.2
  rw [completion_of_receives receives, Gateway.classify]
  dsimp only
  rw [if_neg routes.1, received_access, general, unmatched]
  dsimp only
  rw [decideRoute_eq, hit, record]
  rfl

theorem routeRecord_path (g : Gateway) (p : PortId) (f : Frame) : (g.routeRecord p f).path ≠ .pause := by
  unfold Gateway.routeRecord
  split <;> exact nofun

/-! ## What a decision on the receive side leaves -/

theorem silent_port (g : Gateway) (p : PortId) (r : DecisionRecord) :
    (g.silent p r).port p = { g.port p with record := some { r with outcome := .silence } } :=
  Gateway.port_modPort_self _ _ _

theorem answerNak_other (g : Gateway) (p : PortId) (r : DecisionRecord) (resp : Response) :
    (g.answerNak p r resp).port p.other = g.port p.other := by
  rw [Gateway.answerNak, Gateway.port_count, Gateway.port_modPort_other]

theorem startHold_other (g : Gateway) (p : PortId) (r : DecisionRecord) :
    (g.startHold p r).port p.other = g.port p.other := by
  rw [Gateway.startHold, Gateway.port_count, Gateway.port_modPort_other]

theorem startHold_counted (g : Gateway) (p : PortId) (r : DecisionRecord) :
    Counted (portCounterIndex p .held) g (g.startHold p r) := by
  simp [Counted, Gateway.startHold]

/-- A change of the receive side alone gives the selections nothing to take. -/
theorem receiveSide_settled {g : Gateway} (settled : g.Settled) (p : PortId) {f : Port → Port}
    (same : ∀ q : Port, (f q).state = q.state ∧ (f q).slot = q.slot ∧ (f q).pendingPause = q.pendingPause ∧
      (f q).pause = q.pause ∧ (f q).urgent = q.urgent ∧ (f q).normal = q.normal) : (g.modPort p f).Settled := by
  obtain ⟨state, slot, pending, pause, urgent, normal⟩ := same (g.port p)
  exact modPort_settled p settled
    (Port.settled_congr state slot pending pause (fun empty => urgent.trans empty) fun empty => normal.trans empty)

theorem silent_settled {g : Gateway} (settled : g.Settled) (p : PortId) (r : DecisionRecord) : (g.silent p r).Settled :=
  receiveSide_settled settled p fun _ => ⟨rfl, rfl, rfl, rfl, rfl, rfl⟩

theorem answerNak_settled {g : Gateway} (settled : g.Settled) (p : PortId) (r : DecisionRecord) (resp : Response) :
    (g.answerNak p r resp).Settled :=
  count_settled p _ (receiveSide_settled settled p fun _ => ⟨rfl, rfl, rfl, rfl, rfl, rfl⟩)

theorem startHold_settled {g : Gateway} (settled : g.Settled) (p : PortId) (r : DecisionRecord) : (g.startHold p r).Settled :=
  count_settled p _ (receiveSide_settled settled p fun _ => ⟨rfl, rfl, rfl, rfl, rfl, rfl⟩)

theorem pauseFrame_of_path {q : Port} {r : DecisionRecord} (record : q.record = some r) (path : r.path ≠ .pause) :
    q.pauseFrame = none := by
  unfold Port.pauseFrame
  split
  · rename_i st r' _ same
    obtain rfl : r = r' := by simpa [record] using same
    simp [path]
  · rfl

/-- Settles O24, by what silence and a NAK leave of the port; neither gives a selection anything to take. -/
theorem pauseIgnoreAndRefuseEndTheDecision : Obligations.PauseIgnoreAndRefuseEndTheDecision := by
  intro s p f receives settled r decided
  have active := receives.1
  refine exec_of_effect (c := completion p f) ⟨rfl, ?_⟩
  by_cases pause : f.kind = kindPause
  · rw [completion_of_pause receives pause, settle_of_settled _ (silent_settled (received_settled settled p f) p _)]
    have frame := (received_allBut s.gw p f).mono (m := [portPart p, .route, .counters]) (by simp)
    have silent := (silent_allBut (s.gw.received p f) p
      (DecisionRecord.bare .pause (s.gw.port p).words.access f)).mono (m := [portPart p, .route, .counters]) (by simp)
    have port := silent_port (s.gw.received p f) p (DecisionRecord.bare .pause (s.gw.port p).words.access f)
    rw [received_port] at port
    have route : ((s.gw.received p f).silent p (DecisionRecord.bare .pause (s.gw.port p).words.access f)).route = s.gw.route :=
      ((received_allBut s.gw p f).trans ((silent_allBut _ p _).mono (by simp))) .route (by cases p <;> decide)
    have counters : ((s.gw.received p f).silent p (DecisionRecord.bare .pause (s.gw.port p).words.access f)).counters =
        (s.gw.received p f).counters := silent_allBut _ p _ .counters (by cases p <;> decide)
    rw [port, if_pos pause]
    refine ⟨frame.trans silent, rfl, rfl, route, fun _ => ?_, fun other => absurd pause other, fun _ => ⟨rfl, ?_⟩,
      fun other => absurd pause other⟩
    · simp [Port.pauseFrame, Port.stage, active, DecisionRecord.bare]
    · exact (received_counted s.gw p f).of_counters_eq counters
  · obtain ⟨routes, verdict⟩ := decided.resolve_left pause
    have frame := looked_allBut s.gw p f
    have path := routeRecord_path s.gw p f
    have looked := looked_settled settled p f
    rw [completion_of_routes receives routes, if_neg pause]
    rcases verdict with ignore | refuse
    · have taken : (s.gw.looked p f).decideAction p (s.gw.routeRecord p f) f = (s.gw.looked p f).silent p r := by
        rw [Gateway.decideAction, ignore]
      have silent := silent_allBut (s.gw.looked p f) p r
      have port := silent_port (s.gw.looked p f) p r
      rw [looked_port] at port
      have route : ((s.gw.looked p f).silent p r).route = s.gw.routeHit p f := silent .route (by cases p <;> decide)
      have counters : ((s.gw.looked p f).silent p r).counters = (s.gw.looked p f).counters :=
        silent .counters (by cases p <;> decide)
      rw [taken, settle_of_settled _ (silent_settled looked p r), port]
      refine ⟨frame.trans (silent.mono (by simp)), rfl, rfl, route, fun kind => absurd kind pause, fun _ => ?_,
        fun _ => ⟨rfl, (received_counted s.gw p f).of_counters_eq counters⟩, fun _ refuse => ?_⟩
      · exact pauseFrame_of_path rfl path
      · rw [ignore] at refuse
        cases refuse
    · have taken : (s.gw.looked p f).decideAction p (s.gw.routeRecord p f) f = (s.gw.looked p f).answerNak p r .nakRefuse := by
        rw [Gateway.decideAction, refuse]
      have answered := answerNak_allBut (s.gw.looked p f) p r .nakRefuse
      have port := answerNak_port (s.gw.looked p f) p r .nakRefuse
      rw [looked_port] at port
      have route : ((s.gw.looked p f).answerNak p r .nakRefuse).route = s.gw.routeHit p f :=
        answered .route (by cases p <;> decide)
      rw [taken, settle_of_settled _ (answerNak_settled looked p r .nakRefuse), port]
      refine ⟨frame.trans (answered.mono (by simp)), rfl, rfl, route, fun kind => absurd kind pause, fun _ => ?_,
        fun other => ?_, fun _ _ => ⟨rfl, (looked_counted s.gw p f).snoc (answerNak_counted _ p r .nakRefuse)⟩⟩
      · exact pauseFrame_of_path rfl path
      · rcases other with kind | ignore
        · exact absurd kind pause
        · rw [refuse] at ignore
          cases ignore

/-! ## The checks of a FORWARD frame (R79 to R83) -/

theorem decideAction_of_forward {g : Gateway} {r : DecisionRecord} (forward : r.action = some .forward) (p : PortId)
    (f : Frame) : g.decideAction p r f = g.decideForward p r f := by
  rw [Gateway.decideAction, forward]

theorem looked_groupPasses (g : Gateway) (p : PortId) (r : DecisionRecord) (f : Frame) :
    (g.looked p f).groupPasses p r f = g.groupPasses p r f := by
  have group : (g.looked p f).group = g.group := looked_allBut g p f .group (by cases p <;> decide)
  simp only [Gateway.groupPasses, group]

theorem groupPasses_iff (g : Gateway) (p : PortId) (r : DecisionRecord) (f : Frame) :
    g.groupPasses p r f = true ↔
      (r.rewrite.getD f.dest).getLsbD 15 = false ∨ r.bypass = true ∨
        binSet g.group p.other (binOf (r.rewrite.getD f.dest)) = true := by
  simp [Gateway.groupPasses, DecisionRecord.sentDest, isGroup, or_assoc]

/-- Settles O25, by the branch of the checks that decides. -/
theorem forwardChecksInOrder : Obligations.ForwardChecksInOrder := by
  intro s p f receives settled routes forward r d wanted
  have frame := looked_allBut s.gw p f
  have looked := looked_settled settled p f
  have counted := looked_counted s.gw p f
  have passes : (s.gw.looked p f).groupPasses p r f = true ↔ wanted := by
    rw [looked_groupPasses]
    exact groupPasses_iff s.gw p r f
  refine exec_of_effect (c := completion p f) ⟨rfl, ?_⟩
  have routeKept : ((s.gw.looked p f).decideForward p r f).settle.route = s.gw.routeHit p f :=
    ((decideForward_allBut (s.gw.looked p f) p r f).trans ((settle_allBut _).mono (by decide))) .route (by decide)
  rw [completion_of_routes receives routes, decideAction_of_forward forward]
  refine ⟨routeKept, fun expired => ?_, fun hop unwanted => ?_, fun hop want out => ?_⟩
  · have taken : (s.gw.looked p f).decideForward p r f =
        (((s.gw.looked p f).answerNak p r .nakRefuse).countDevice .hopExpired).latch .hopExpired := by
      rw [Gateway.decideForward, if_pos expired]
    have before : (((s.gw.looked p f).answerNak p r .nakRefuse).countDevice .hopExpired).Settled :=
      answerNak_settled looked p r .nakRefuse
    obtain ⟨others, latched, serves⟩ := latch_settle before .hopExpired
    have port := serves p
    rw [Gateway.port_countDevice, answerNak_port, looked_port] at port
    have reported := (counted.snoc (answerNak_counted _ p r .nakRefuse)).snoc
      (countDevice_counted ((s.gw.looked p f).answerNak p r .nakRefuse) .hopExpired)
    have answered : AllBut ([.route, .counters] ++ latchParts) s.gw
        (((s.gw.looked p f).answerNak p r .nakRefuse).countDevice .hopExpired) :=
      ((frame.mono (by cases p <;> decide)).trans ((answerNak_allBut _ p r _).mono (by cases p <;> decide))).trans
        ((bump_allBut _ _ _).mono (by decide))
    rw [taken]
    generalize ((((s.gw.looked p f).answerNak p r .nakRefuse).countDevice .hopExpired).latch .hopExpired).settle = t
      at others latched port ⊢
    have counters : t.counters = _ := others .counters (by decide)
    have role : (t.port p).role = .answered .nakRefuse := port.role_of_free rfl
    exact ⟨role, latched, reported.of_counters_eq counters, answered.trans (others.mono (by decide))⟩
  · have taken : (s.gw.looked p f).decideForward p r f = (s.gw.looked p f).silent p r := by
      rw [Gateway.decideForward, if_neg hop, if_pos]
      simpa using mt passes.mp unwanted
    have silent := silent_allBut (s.gw.looked p f) p r
    have counters : ((s.gw.looked p f).silent p r).counters = (s.gw.looked p f).counters :=
      silent .counters (by cases p <;> decide)
    rw [taken, settle_of_settled _ (silent_settled looked p r), silent_port, looked_port]
    exact ⟨rfl, counted.of_counters_eq counters, frame.trans (silent.mono (by simp))⟩
  · have taken : (s.gw.looked p f).decideForward p r f = (s.gw.looked p f).answerNak p r .nakRefuse := by
      rw [Gateway.decideForward, if_neg hop, if_neg (by simpa using passes.mpr want), if_pos (by rw [looked_other]; exact out)]
    rw [taken, settle_of_settled _ (answerNak_settled looked p r .nakRefuse), answerNak_port, looked_port]
    exact ⟨rfl, counted.snoc (answerNak_counted _ p r .nakRefuse), frame.trans ((answerNak_allBut _ p r _).mono (by simp))⟩

/-- A frame whose first three checks pass meets capacity and meter (R79, R83, R84). -/
theorem decideForward_of_crosses {g : Gateway} {p : PortId} {f : Frame} (crosses : g.Crosses p (g.routeRecord p f) f) :
    (g.looked p f).decideForward p (g.routeRecord p f) f =
      (g.looked p f).carryForward p (g.routeRecord p f) f (·.holdOrBusy p (g.routeRecord p f))
        ((g.looked p f).forwardVerdict p (g.routeRecord p f) ((g.looked p f).treatmentOf (g.routeRecord p f))) := by
  obtain ⟨-, hop, passes, active⟩ := crosses
  rw [Gateway.decideForward, if_neg hop, if_neg (by simpa [looked_groupPasses] using passes),
    if_neg (by rw [looked_other]; exact fun out => out active)]

/-! ## A frame without room (R27, R69, R78, R83, R86) -/

/-- What holding, or NAK-BUSY at once, leaves. -/
theorem holdOrBusy_outcome (g : Gateway) (p : PortId) (r : DecisionRecord) :
    ((g.port p).words.holdLimit ≠ 0 →
        (g.holdOrBusy p r).port p =
          { g.port p with
            role := .holding ((g.port p).words.holdLimit.toNat * 64) false
            record := some { r with outcome := .holding, treatment := g.treatmentOf r } } ∧
          Counted (portCounterIndex p .held) g (g.holdOrBusy p r)) ∧
      ((g.port p).words.holdLimit = 0 →
        (g.holdOrBusy p r).port p =
          { g.port p with role := .answered .nakBusy, record := some { r with outcome := .answer .nakBusy } } ∧
          Counted (portCounterIndex p .busy) g (g.holdOrBusy p r)) := by
  refine ⟨fun limit => ?_, fun limit => ?_⟩
  · rw [Gateway.holdOrBusy, if_neg limit, startHold_port, Nat.mul_comm]
    exact ⟨rfl, startHold_counted g p r⟩
  · rw [Gateway.holdOrBusy, if_pos limit, answerNak_port]
    exact ⟨rfl, answerNak_counted g p r .nakBusy⟩

theorem holdOrBusy_settled {g : Gateway} (settled : g.Settled) (p : PortId) (r : DecisionRecord) :
    (g.holdOrBusy p r).Settled := by
  unfold Gateway.holdOrBusy
  split
  · exact answerNak_settled settled p r _
  · exact startHold_settled settled p r

theorem claimManagement_of_noRoom {g : Gateway} (noRoom : 2 ≤ g.agentQueue.length ∨ g.free = 0) (p : PortId)
    (r : DecisionRecord) (f : Frame) : g.claimManagement p r f = none := by
  rw [Gateway.claimManagement, if_neg]
  rintro ⟨room, buffer⟩
  unfold agentCap at room
  omega

theorem claimDivert_of_noRoom {g : Gateway} (noRoom : g.free < 2 ∨ 4 ≤ g.capture.length) (p : PortId)
    (r : DecisionRecord) (f : Frame) : g.claimDivert p r f = none := by
  rw [Gateway.claimDivert, if_neg]
  rintro ⟨buffers, room⟩
  unfold captureCap at room
  omega

theorem forwardVerdict_of_noCapacity {g : Gateway} {p : PortId}
    (noRoom : g.free < 2 ∨ 24 ≤ (g.port p.other).egressCount ∨ (g.port p.other).state ≠ .active)
    (r : DecisionRecord) (treatment : Option (Bool × MeterMode)) : g.forwardVerdict p r treatment = .noCapacity := by
  unfold Gateway.forwardVerdict
  rw [if_neg]
  simp only [Gateway.capacity, Bool.and_eq_true, decide_eq_true_eq]
  rintro ⟨⟨active, buffers⟩, room⟩
  unfold egressCap at room
  rcases noRoom with few | full | out
  · omega
  · omega
  · exact out active

/-- Where a frame without room stands when its record is `r` and the part is `h` (R26, R27, R69, R78, R83, R86). -/
theorem noRoom_outcome {g h : Gateway} {p : PortId} {f : Frame} {r : DecisionRecord} (settled : h.Settled)
    (port : h.port p = (g.port p).stage f (crc f.bytes)) (counted : CountedAll [portCounterIndex p .rxGood] g h)
    (frame : AllBut [portPart p, .route, .counters] g h) :
    AllBut [portPart p, .route, .counters] g (h.holdOrBusy p r).settle ∧ (h.holdOrBusy p r).settle.route = h.route ∧
      ((h.holdOrBusy p r).settle.port p).staging = some ⟨f, crc f.bytes⟩ ∧
      ((g.port p).words.holdLimit ≠ 0 →
        ((h.holdOrBusy p r).settle.port p).role = .holding ((g.port p).words.holdLimit.toNat * 64) false ∧
          ((h.holdOrBusy p r).settle.port p).record.map DecisionRecord.outcome = some .holding ∧
          ((h.holdOrBusy p r).settle.port p).record.bind DecisionRecord.treatment = h.treatmentOf r ∧
          CountedAll [portCounterIndex p .rxGood, portCounterIndex p .held] g (h.holdOrBusy p r).settle) ∧
      ((g.port p).words.holdLimit = 0 →
        ((h.holdOrBusy p r).settle.port p).role = .answered .nakBusy ∧
          CountedAll [portCounterIndex p .rxGood, portCounterIndex p .busy] g (h.holdOrBusy p r).settle) := by
  obtain ⟨holds, answers⟩ := holdOrBusy_outcome h p r
  have waits := holdOrBusy_allBut h p r
  have route : (h.holdOrBusy p r).route = h.route := waits .route (by cases p <;> decide)
  rw [port] at holds answers
  rw [settle_of_settled _ (holdOrBusy_settled settled p r)]
  refine ⟨frame.trans (waits.mono (by simp)), route, ?_, fun limit => ?_, fun limit => ?_⟩
  · by_cases limit : (g.port p).words.holdLimit = 0
    · rw [(answers limit).1]
      rfl
    · rw [(holds limit).1]
      rfl
  · obtain ⟨now, held⟩ := holds limit
    rw [now]
    exact ⟨rfl, rfl, rfl, counted.snoc held⟩
  · obtain ⟨now, busy⟩ := answers limit
    rw [now]
    exact ⟨rfl, counted.snoc busy⟩

/-- Settles O26, by the three claims that find no room and the one thing such a frame does. -/
theorem noRoomHoldsOrAnswersBusy : Obligations.NoRoomHoldsOrAnswersBusy := by
  intro s p f receives settled kind noRoom
  have frame := looked_allBut s.gw p f
  have free : (s.gw.looked p f).free = s.gw.free := frame .free (by cases p <;> decide)
  refine exec_of_effect (c := completion p f) ⟨rfl, ?_⟩
  cases takes : s.gw.takes p f with
  | some own =>
    have full : 2 ≤ s.gw.agentQueue.length ∨ s.gw.free = 0 := by
      rcases noRoom with ⟨-, full⟩ | ⟨other, -⟩ | ⟨other, -⟩
      · exact full
      · rw [takes] at other
        cases other
      · rw [takes] at other
        cases other
    have received := received_allBut s.gw p f
    have agent : (s.gw.received p f).agentQueue = s.gw.agentQueue := received .agentQueue (by cases p <;> decide)
    have buffers : (s.gw.received p f).free = s.gw.free := received .free (by cases p <;> decide)
    have none := claimManagement_of_noRoom (g := s.gw.received p f) (by rw [agent, buffers]; exact full) p
      (managementRecord s.gw p f own) f
    obtain ⟨others, route, staging, holds, answers⟩ := noRoom_outcome (r := managementRecord s.gw p f own)
      (received_settled settled p f) (received_port s.gw p f) (received_counted s.gw p f).all (received.mono (by simp))
    have routeKept : (s.gw.received p f).route = s.gw.route := received .route (by cases p <;> decide)
    rw [completion_of_takes receives kind takes, none, Option.getD_none]
    generalize ((s.gw.received p f).holdOrBusy p (managementRecord s.gw p f own)).settle = t at others route staging holds answers ⊢
    refine ⟨others, ?_, staging, fun limit => ?_, answers⟩
    · rw [if_neg nofun]
      exact route.trans routeKept
    · obtain ⟨role, outcome, treatment, counted⟩ := holds limit
      refine ⟨role, outcome, ?_, counted⟩
      rw [if_neg (by simp), treatment]
      rfl
  | none =>
    have routes : s.gw.Routes p f := ⟨kind, takes⟩
    have waits : (s.gw.looked p f).decideAction p (s.gw.routeRecord p f) f =
        (s.gw.looked p f).holdOrBusy p (s.gw.routeRecord p f) := by
      rcases noRoom with ⟨some, -⟩ | ⟨-, divert, full⟩ | ⟨-, crosses, full⟩
      · exact absurd takes some
      · have capture : (s.gw.looked p f).capture = s.gw.capture := frame .capture (by cases p <;> decide)
        rw [Gateway.decideAction, divert]
        dsimp only
        rw [claimDivert_of_noRoom (by rw [free, capture]; exact full), Option.getD_none]
      · rw [decideAction_of_forward crosses.1, decideForward_of_crosses crosses, forwardVerdict_of_noCapacity]
        · rfl
        · rw [free, looked_other]
          exact full.imp id .inl
    obtain ⟨others, route, staging, holds, answers⟩ := noRoom_outcome (r := s.gw.routeRecord p f)
      (looked_settled settled p f) (looked_port s.gw p f) (looked_counted s.gw p f) frame
    rw [completion_of_routes receives routes, waits]
    generalize ((s.gw.looked p f).holdOrBusy p (s.gw.routeRecord p f)).settle = t at others route staging holds answers ⊢
    refine ⟨others, ?_, staging, fun limit => ?_, answers⟩
    · rw [if_pos rfl]
      exact route
    obtain ⟨role, outcome, treatment, counted⟩ := holds limit
    refine ⟨role, outcome, ?_, counted⟩
    rw [treatment]
    simp only [Gateway.treatmentOf, DecisionRecord.forwards, decide_eq_true_eq, true_and, looked_meter]
    rfl

end Sys2Proof.Machine
end

section
/-! SUPPORT. The claim of a FORWARD frame, a frame beyond its meter, and a PAUSE ask (R38, R39, R57 to R59, R84, R85, R92
to R95, R105, R107 to R111). -/

open Sys2Proof

namespace Sys2Proof.Machine

/-! ## Selections on one port -/

/-- A port whose slot is full makes no selection (R57). -/
theorem selectEgress_of_full {g : Gateway} {p : PortId} (full : (g.port p).slot ≠ .empty) : g.selectEgress p = g := by
  unfold Gateway.selectEgress
  rw [if_neg fun both => full both.2]

theorem port_of_other_frame {g t : Gateway} {p : PortId} (frame : AllBut [portPart p.other] g t) : t.port p = g.port p := by
  cases p
  · exact frame .portA (by decide)
  · exact frame .portB (by decide)

theorem other_of_frame {g t : Gateway} {p : PortId} {l : List Part} (frame : AllBut (portPart p :: l) g t)
    (a : .portA ∉ l) (b : .portB ∉ l) : t.port p.other = g.port p.other := by
  cases p
  · exact frame .portB (by simp [portPart, b])
  · exact frame .portA (by simp [portPart, a])

/-- Where no old frame is met, the selections leave a port whose slot is full (R57). -/
theorem settle_port_of_full {g : Gateway} (young : g.NothingAged) {x : PortId} (full : (g.port x).slot ≠ .empty) :
    g.settle.port x = g.port x := by
  have select : ∀ (h : Gateway) (y : PortId), h.NothingAged ∧ h.port x = g.port x →
      (h.selectEgress y).NothingAged ∧ (h.selectEgress y).port x = g.port x := by
    rintro h y ⟨still, same⟩
    obtain ⟨frame, sends⟩ := selectEgress_of_nothingAged h y still
    refine ⟨sends.keeps_nothingAged still, ?_⟩
    rcases PortId.eq_or_other y x with rfl | rfl
    · rw [selectEgress_of_full (by rw [same]; exact full), same]
    · rw [other_of_frame frame (by decide) (by decide), same]
  exact (select _ .b (select _ .a (select _ .b (select _ .a ⟨young, rfl⟩)))).2

/-- Where no old frame is met and the other port has nothing to select, the selections of an event are one port's. -/
theorem settle_of_single {g : Gateway} {p : PortId} (young : g.NothingAged) (other : (g.port p.other).Settled) :
    g.settle = g.selectEgress p := by
  obtain ⟨frame, -⟩ := selectEgress_of_nothingAged g p young
  have now := selectEgress_settled p young
  have still : ((g.selectEgress p).port p.other).Settled := by
    rw [other_of_frame frame (by decide) (by decide)]
    exact other
  have own := selectEgress_of_settled (g.selectEgress p) p now
  have aside := selectEgress_of_settled (g.selectEgress p) p.other still
  have first := selectEgress_of_settled g p.other other
  cases p
  · simp only [PortId.other_a] at aside
    rw [Gateway.settle, aside, own, aside]
  · simp only [PortId.other_b] at aside first
    rw [Gateway.settle, first, aside, own]

/-! ## A re-evaluation of POOL_LOW with notices off (R50, R51) -/

/-- With notices off it touches the Event Monitor, and asks both ports for a PAUSE at most. -/
theorem evalPool_of_noticeOff {g : Gateway} (off : g.general.noticeEnable = false) :
    AllBut [.portA, .portB, .monitor] g g.evalPool ∧
      ∀ x, g.evalPool.port x = g.port x ∨ g.evalPool.port x = (g.port x).pauseAsk := by
  have general : g.poolEval.general = g.general := poolEval_allBut g .general (by decide)
  have pin : AllBut [.monitor] g.poolEval g.evalPool := by
    unfold Gateway.evalPool
    rw [alertEval_of_noticeOff _ (by rw [general]; exact off)]
    exact .of_same fun x => by cases x <;> simp [Part.Same]
  refine ⟨(poolEval_allBut g).trans (pin.mono (by decide)), fun x => ?_⟩
  rw [port_of_allBut pin (by decide) (by decide)]
  exact poolEval_port g x

theorem pauseAsk_queues (q : Port) : q.pauseAsk.slot = q.slot ∧ q.pauseAsk.urgent = q.urgent ∧ q.pauseAsk.normal = q.normal := by
  unfold Port.pauseAsk
  repeat' split
  all_goals exact ⟨rfl, rfl, rfl⟩

/-! ## The claim of a FORWARD frame (R85) -/

theorem enqueue_slot (q : Port) (name : QueueName) (b : PoolBuffer) : (q.enqueue name b).slot = q.slot := by
  cases name <;> rfl

/-- The queue a record names, NORMAL where it names none (R85). -/
theorem enqueue_queues (q : Port) (queue : Option QueueName) (b : PoolBuffer) :
    (q.enqueue (queue.getD .normal) b).urgent = q.urgent ++ (if queue = some .urgent then [⟨b, 0⟩] else []) ∧
      (q.enqueue (queue.getD .normal) b).normal = q.normal ++ if queue = some .urgent then [] else [⟨b, 0⟩] := by
  rcases queue with _ | _ | _ <;> simp [Port.enqueue]

/-- The buffer of a claimed FORWARD frame (R92 to R95). -/
def forwardBuffer (p : PortId) (r : DecisionRecord) (f : Frame) : PoolBuffer :=
  ⟨rewriteFrame r f, p, .claimed, false⟩

/-- A FORWARD frame loses one hop (R95). -/
theorem rewriteFrame_of_forward {r : DecisionRecord} (forward : r.action = some .forward) (f : Frame) :
    rewriteFrame r f = { rewriteFrame r f with hop := f.hop - 1 } := by
  simp [rewriteFrame, DecisionRecord.forwards, forward]

/-- A claimed frame stands in its queue, POOL_LOW not yet re-evaluated (R85). -/
def Gateway.forwarded (g : Gateway) (p : PortId) (r : DecisionRecord) (f : Frame) (queue : QueueName) : Gateway :=
  (({ g with free := g.free - 1 }).modPort p.other (·.enqueue queue (forwardBuffer p r f))).answerAck p

theorem claimForward_eq (g : Gateway) (p : PortId) (r : DecisionRecord) (f : Frame) (queue : QueueName) :
    g.claimForward p r f queue = (g.forwarded p r f queue).evalPool := rfl

theorem answerAck_port (g : Gateway) (p : PortId) :
    (g.answerAck p).port p = { g.port p with role := .answered .ack, record := none, staging := none } := by
  rw [Gateway.answerAck, Gateway.port_count, Gateway.port_modPort_self]

theorem answerAck_other (g : Gateway) (p : PortId) : (g.answerAck p).port p.other = g.port p.other := by
  rw [Gateway.answerAck, Gateway.port_count, Gateway.port_modPort_other]

theorem answerAck_counted (g : Gateway) (p : PortId) : Counted (portCounterIndex p .claimed) g (g.answerAck p) := by
  simp [Counted, Gateway.answerAck]

theorem forwarded_port (g : Gateway) (p : PortId) (r : DecisionRecord) (f : Frame) (queue : QueueName) :
    (g.forwarded p r f queue).port p = { g.port p with role := .answered .ack, record := none, staging := none } := by
  rw [Gateway.forwarded, answerAck_port, Gateway.port_other_modPort]
  cases p <;> rfl

theorem forwarded_other (g : Gateway) (p : PortId) (r : DecisionRecord) (f : Frame) (queue : QueueName) :
    (g.forwarded p r f queue).port p.other = (g.port p.other).enqueue queue (forwardBuffer p r f) := by
  rw [Gateway.forwarded, answerAck_other, Gateway.port_modPort_self]
  cases p <;> rfl

theorem forwarded_allBut (g : Gateway) (p : PortId) (r : DecisionRecord) (f : Frame) (queue : QueueName) :
    AllBut [.portA, .portB, .free, .counters] g (g.forwarded p r f queue) := by
  refine AllBut.trans (h := { g with free := g.free - 1 }) (.of_same fun x => by cases x <;> simp [Part.Same]) ?_
  exact ((modPort_allBut_ports _ _ _).mono (by decide)).trans ((answerAck_allBut _ p).mono (by cases p <;> decide))

theorem forwarded_free (g : Gateway) (p : PortId) (r : DecisionRecord) (f : Frame) (queue : QueueName) :
    (g.forwarded p r f queue).free = g.free - 1 := by
  simp [Gateway.forwarded, Gateway.answerAck]

theorem forwarded_counted (g : Gateway) (p : PortId) (r : DecisionRecord) (f : Frame) (queue : QueueName) :
    Counted (portCounterIndex p .claimed) g (g.forwarded p r f queue) := by
  simp [Counted, Gateway.forwarded, Gateway.answerAck]

theorem ack_settled {q : Port} (h : q.Settled) :
    ({ q with role := .answered .ack, record := none, staging := none } : Port).Settled :=
  Port.settled_congr (q := q) rfl rfl rfl rfl id id h

theorem forwarded_nothingAged {g : Gateway} (settled : g.Settled) (p : PortId) (r : DecisionRecord) (f : Frame)
    (queue : QueueName) : (g.forwarded p r f queue).NothingAged := by
  intro x
  rcases PortId.eq_or_other p x with rfl | rfl
  · rw [forwarded_port]
    exact (ack_settled (settled.port x)).nothingAged
  · rw [forwarded_other]
    exact (enqueue_sendsOnly _ _ _).nothingAged (settled.port p.other).nothingAged

/-- What stands once a FORWARD frame of port `p` is claimed into buffer `b` and these counters have risen: ACK, one buffer
taken, and the frame at the tail of its queue (R85). -/
structure ForwardClaim (is : List Nat) (g : Gateway) (p : PortId) (b : PoolBuffer) (queue : QueueName) (c : Gateway) :
    Prop where
  frame : AllBut [.portA, .portB, .free, .counters, .monitor] g c
  free : c.free = g.free - 1
  counted : CountedAll is g c
  role : (c.port p).role = .answered .ack
  slot : (c.port p.other).slot = (g.port p.other).slot
  urgent : (c.port p.other).urgent = ((g.port p.other).enqueue queue b).urgent
  normal : (c.port p.other).normal = ((g.port p.other).enqueue queue b).normal
  young : c.NothingAged

theorem claimForward_claims {g : Gateway} (settled : g.Settled) (off : g.general.noticeEnable = false) (p : PortId)
    (r : DecisionRecord) (f : Frame) (queue : QueueName) :
    ForwardClaim [portCounterIndex p .claimed] g p (forwardBuffer p r f) queue (g.claimForward p r f queue) := by
  have taken := forwarded_allBut g p r f queue
  have general : (g.forwarded p r f queue).general = g.general := taken .general (by decide)
  obtain ⟨evaluated, ports⟩ := evalPool_of_noticeOff (g := g.forwarded p r f queue) (by rw [general]; exact off)
  have serves := evalPool_serves (g.forwarded p r f queue)
  have young := (evalPool_sendsOnly _).keeps_nothingAged (forwarded_nothingAged settled p r f queue)
  have counters : (g.forwarded p r f queue).evalPool.counters = _ := evaluated .counters (by decide)
  have free : (g.forwarded p r f queue).evalPool.free = _ := evaluated .free (by decide)
  have own := serves p
  rw [forwarded_port] at own
  have other : ((g.forwarded p r f queue).evalPool.port p.other).slot = (g.port p.other).slot ∧
      ((g.forwarded p r f queue).evalPool.port p.other).urgent =
        ((g.port p.other).enqueue queue (forwardBuffer p r f)).urgent ∧
      ((g.forwarded p r f queue).evalPool.port p.other).normal =
        ((g.port p.other).enqueue queue (forwardBuffer p r f)).normal := by
    rcases ports p.other with same | asked
    · rw [same, forwarded_other, enqueue_slot]
      exact ⟨rfl, rfl, rfl⟩
    · obtain ⟨slot, urgent, normal⟩ := pauseAsk_queues ((g.forwarded p r f queue).port p.other)
      rw [asked, slot, urgent, normal, forwarded_other, enqueue_slot]
      exact ⟨rfl, rfl, rfl⟩
  rw [claimForward_eq]
  generalize (g.forwarded p r f queue).evalPool = c at evaluated young counters free own other ⊢
  exact ⟨(taken.mono (by decide)).trans (evaluated.mono (by decide)), free.trans (forwarded_free g p r f queue),
    (forwarded_counted g p r f queue).all.of_counters_eq counters, own.role_of_free rfl, other.1, other.2.1, other.2.2, young⟩

/-- The selections of the event leave the claim where the egress slot is full (R57). -/
theorem ForwardClaim.settle {is : List Nat} {g c : Gateway} {p : PortId} {b : PoolBuffer} {queue : QueueName}
    (claim : ForwardClaim is g p b queue c) (full : (g.port p.other).slot ≠ .empty) :
    ForwardClaim is g p b queue c.settle := by
  obtain ⟨frame, -⟩ := settle_of_nothingAged c claim.young
  have other : c.settle.port p.other = c.port p.other := settle_port_of_full claim.young (by rw [claim.slot]; exact full)
  have own := settle_serves c p
  have young := (settle_settled c).nothingAged
  generalize c.settle = t at frame other own young ⊢
  have counters : t.counters = c.counters := frame .counters (by decide)
  have free : t.free = c.free := frame .free (by decide)
  have role : (t.port p).role = .answered .ack := by
    rw [own.role_of_free (by simp [Port.isHolding, claim.role]), claim.role]
  exact ⟨claim.frame.trans (frame.mono (by decide)), free.trans claim.free, claim.counted.of_counters_eq counters, role,
    by rw [other, claim.slot], by rw [other, claim.urgent], by rw [other, claim.normal], young⟩

/-! ## The meter's verdict (R83, R84, R104, R105) -/

theorem capacity_of_room {g : Gateway} {p : PortId} (active : (g.port p.other).state = .active) (buffers : 2 ≤ g.free)
    (room : (g.port p.other).egressCount < 24) : g.capacity p = true := by
  simp [Gateway.capacity, active, buffers, egressCap, room]

theorem forwardVerdict_of_noMeter {g : Gateway} {p : PortId} {r : DecisionRecord} (capacity : g.capacity p = true)
    (none : r.meter = none) (treatment : Option (Bool × MeterMode)) : g.forwardVerdict p r treatment = .pass := by
  unfold Gateway.forwardVerdict
  rw [if_pos capacity, none]

/-- A meter that was not read enabled lets the frame pass (R84). -/
theorem forwardVerdict_of_disabled {g : Gateway} {p : PortId} {r : DecisionRecord} (capacity : g.capacity p = true)
    {treatment : Option (Bool × MeterMode)} (disabled : treatment.map Prod.fst ≠ some true) :
    g.forwardVerdict p r treatment = .pass := by
  unfold Gateway.forwardVerdict
  rw [if_pos capacity]
  split
  · exact absurd rfl disabled
  · rfl
  · rfl
  · rfl

theorem forwardVerdict_of_enabled {g : Gateway} {p : PortId} {r : DecisionRecord} (capacity : g.capacity p = true) {k : Nat}
    (meter : r.meter = some k) (mode : MeterMode) :
    g.forwardVerdict p r (some (true, mode)) =
      if r.byteCount ≤ (g.meter k).credit.toNat then .conform k else .exceed k mode := by
  unfold Gateway.forwardVerdict
  rw [if_pos capacity, meter]

theorem debit_meter (g : Gateway) (k n j : Nat) :
    (g.debit k n).meter j =
      if j = k ∧ k < g.meters.length then { g.meter k with credit := (g.meter k).credit - BitVec.ofNat 16 n }
      else g.meter j := by
  rw [Gateway.meter, Gateway.meters_debit, getD_set]
  rfl

/-- A debit within the credit takes the byte count from it (R105). -/
theorem debit_credit {g : Gateway} {k n : Nat} (inside : k < g.meters.length) (room : n ≤ (g.meter k).credit.toNat) :
    ((g.debit k n).meter k).credit.toNat + n = (g.meter k).credit.toNat := by
  rw [debit_meter, if_pos ⟨rfl, inside⟩]
  have bound := (g.meter k).credit.isLt
  simp only [BitVec.toNat_sub, BitVec.toNat_ofNat]
  omega

/-! ## A frame beyond its meter (R107 to R111) -/

/-- The exceed count of a frame not yet reported (R107). -/
def exceedReports (r : DecisionRecord) (k : Nat) : List Nat :=
  if r.reported then [] else [exceedIndex k]

theorem CountedAll.append {is js : List Nat} {g h t : Gateway} (first : CountedAll is g h) (second : CountedAll js h t) :
    CountedAll (is ++ js) g t := by
  rw [CountedAll, List.foldl_append, ← show h.counters = _ from first]
  exact second

theorem latch_of_noticeOff_allBut {g : Gateway} (off : g.general.noticeEnable = false) (src : Source) :
    AllBut [.monitor] g (g.latch src) := by
  rw [latch_of_noticeOff g src off]
  exact .of_same fun x => by cases x <;> simp [Part.Same]

/-- What a report changes: the mark in the record, the exceed count and the flag (R107). -/
structure Reported (g : Gateway) (p : PortId) (r : DecisionRecord) (k : Nat) (t : Gateway) : Prop where
  frame : AllBut [portPart p, .counters, .monitor] g t
  port : ∃ record, t.port p = { g.port p with record := record } ∧
    record.bind DecisionRecord.treatment = (g.port p).record.bind DecisionRecord.treatment
  counted : CountedAll (exceedReports r k) g t
  latched : r.reported = false → Latched .meterExceed t

theorem reportExceed_reported {g : Gateway} (off : g.general.noticeEnable = false) (p : PortId) (r : DecisionRecord)
    (k : Nat) : Reported g p r k (g.reportExceed p r k) := by
  unfold Gateway.reportExceed
  cases reported : r.reported with
  | true =>
    rw [if_pos rfl]
    refine ⟨.refl _ _, ⟨_, rfl, rfl⟩, ?_, fun fresh => ?_⟩
    · rw [exceedReports, if_pos reported]
      rfl
    · rw [reported] at fresh
      cases fresh
  | false =>
    rw [if_neg (by decide)]
    have marked : AllBut [portPart p, .counters] g ((g.modPort p Port.markReported).bump (exceedIndex k) 1) :=
      ((modPort_allBut g p _).mono (by simp)).trans ((bump_allBut _ _ _).mono (by simp))
    have general : ((g.modPort p Port.markReported).bump (exceedIndex k) 1).general = g.general :=
      marked .general (by cases p <;> decide)
    have latched := latch_of_noticeOff_allBut
      (g := (g.modPort p Port.markReported).bump (exceedIndex k) 1) (by rw [general]; exact off) .meterExceed
    have port : (((g.modPort p Port.markReported).bump (exceedIndex k) 1).latch .meterExceed).port p =
        (g.port p).markReported := by
      rw [port_of_allBut latched (by decide) (by decide), Gateway.port_bump, Gateway.port_modPort_self]
    have counters : (((g.modPort p Port.markReported).bump (exceedIndex k) 1).latch .meterExceed).counters = _ :=
      latched .counters (by decide)
    refine ⟨(marked.mono (by simp)).trans (latched.mono (by simp)), ⟨_, port, ?_⟩, ?_, fun _ => latch_latched _ _⟩
    · cases (g.port p).record <;> rfl
    · rw [exceedReports, if_neg (by simp [reported]), CountedAll, counters]
      simp

theorem record_settled {q : Port} (record : Option DecisionRecord) (h : q.Settled) :
    ({ q with record := record } : Port).Settled :=
  Port.settled_congr (q := q) rfl rfl rfl rfl id id h

theorem Reported.other {g t : Gateway} {p : PortId} {r : DecisionRecord} {k : Nat} (h : Reported g p r k t) :
    t.port p.other = g.port p.other :=
  other_of_frame h.frame (by decide) (by decide)

theorem Reported.settled {g t : Gateway} {p : PortId} {r : DecisionRecord} {k : Nat} (h : Reported g p r k t)
    (settled : g.Settled) : t.Settled := by
  obtain ⟨record, port, -⟩ := h.port
  have own : (t.port p).Settled := by
    rw [port]
    exact record_settled record (settled.port p)
  have other : (t.port p.other).Settled := by
    rw [h.other]
    exact settled.port p.other
  cases p
  · exact ⟨own, other⟩
  · exact ⟨other, own⟩

theorem ForwardClaim.reported {is : List Nat} {g c t : Gateway} {p : PortId} {b : PoolBuffer} {queue : QueueName}
    {r : DecisionRecord} {k : Nat} (claim : ForwardClaim is g p b queue c) (report : Reported c p r k t) :
    ForwardClaim (is ++ exceedReports r k) g p b queue t := by
  obtain ⟨record, port, -⟩ := report.port
  have free : t.free = c.free := report.frame .free (by cases p <;> decide)
  have young : t.NothingAged := by
    intro x
    rcases PortId.eq_or_other p x with rfl | rfl
    · rw [port]
      exact Port.nothingAged_congr rfl rfl rfl rfl rfl rfl (claim.young x)
    · rw [report.other]
      exact claim.young p.other
  exact ⟨claim.frame.trans (report.frame.mono (by cases p <;> decide)), free.trans claim.free,
    claim.counted.append report.counted, by rw [port]; exact claim.role, by rw [report.other, claim.slot],
    by rw [report.other, claim.urgent], by rw [report.other, claim.normal], young⟩

/-- A frame beyond its meter that is answered with a NAK (R108, R110). -/
theorem exceed_answered {g : Gateway} (settled : g.Settled) (off : g.general.noticeEnable = false) (p : PortId)
    (r : DecisionRecord) (k : Nat) (resp : Response) (t : Gateway)
    (outcome : ((g.answerNak p r resp).reportExceed p r k).settle = t) :
    AllBut [portPart p, .counters, .monitor] g t ∧ (t.port p).role = .answered resp ∧
      CountedAll (portCounterIndex p resp.counter :: exceedReports r k) g t ∧
      (r.reported = false → Latched .meterExceed t) := by
  have answered := answerNak_allBut g p r resp
  have general : (g.answerNak p r resp).general = g.general := answered .general (by cases p <;> decide)
  have report := reportExceed_reported (g := g.answerNak p r resp) (by rw [general]; exact off) p r k
  rw [settle_of_settled _ (report.settled (answerNak_settled settled p r resp))] at outcome
  rw [outcome] at report
  obtain ⟨record, port, -⟩ := report.port
  refine ⟨(answered.mono (by simp)).trans report.frame, ?_, (answerNak_counted g p r resp).all.append report.counted,
    report.latched⟩
  rw [port, answerNak_port]

/-! ## A PAUSE ask of the receiving port (R38, R39, R110) -/

/-- `q'` is a port after a PAUSE ask, as far as its egress selection reads it (R38, R58). -/
structure Port.Asked (q q' : Port) : Prop where
  state : q'.state = q.state
  slot : q'.slot = q.slot
  words : q'.words = q.words
  pause : q'.pause = q.pause
  urgent : q'.urgent = q.urgent
  normal : q'.normal = q.normal
  pending : q'.pendingPause = q.pauseAsk.pendingPause

theorem Port.Asked.of_unasked {q q' : Port} (h : q.Asked q') (none : q.words.pauseCount = 0) (settled : q.Settled) :
    q'.Settled := by
  have pending : q'.pendingPause = q.pendingPause := by
    rw [h.pending, Port.pauseAsk, if_neg (by simp [none])]
  exact Port.settled_congr h.state h.slot pending h.pause h.urgent.trans h.normal.trans settled

/-- The ask of a port that has nothing else to select is taken in the event (R38, R39, R57, R58). -/
theorem askTaken_settle {g h : Gateway} {p : PortId} (settled : g.Settled) (active : (g.port p).state = .active)
    (general : h.general = g.general) (asks : (g.port p).Asked (h.port p)) (young : h.NothingAged)
    (other : (h.port p.other).Settled) : g.AskTaken h.settle p := by
  have online : (g.port p).online = true := Port.online_of_active active
  have single := settle_of_single young other
  refine ⟨fun full => ?_, fun empty unasked => ?_, fun empty asked => ?_⟩
  · rw [settle_port_of_full young (by rw [asks.slot]; exact full), asks.slot, asks.pending]
    refine ⟨rfl, ?_⟩
    by_cases count : (g.port p).words.pauseCount = 0#16
    · simp [Port.pauseAsk, count]
    · cases was : (g.port p).slot with
      | empty => exact absurd was full
      | pool b => simp [Port.pauseAsk, online, count, was]
      | pause f => simp [Port.pauseAsk, online, count, was]
  · have still := asks.of_unasked (not_not.mp unasked) (settled.port p)
    rw [single, selectEgress_of_settled h p still]
    exact ⟨asks.slot.trans empty, (still (asks.state.trans active) (asks.slot.trans empty)).1⟩
  · have count : ¬ (g.port p).words.pauseCount = 0#16 := asked
    have due : (h.port p).pendingPause = true := by
      rw [asks.pending, Port.pauseAsk]
      simp [online, count, empty]
    have taken : h.takePause p = h.setPort p (({ h.port p with pendingPause := false } : Port).loadSlot
        (.pause (Frame.pauseOf h.general.own1Value (h.port p).words.pauseCount))) := by
      simp only [Gateway.takePause]
      rw [if_pos due, if_neg (by rw [asks.words]; exact asked)]
    have selected : h.selectEgress p = h.takePause p := by
      unfold Gateway.selectEgress
      rw [if_pos ⟨asks.state.trans active, asks.slot.trans empty⟩]
      dsimp only
      rw [if_neg]
      rw [taken, Gateway.port_setPort_self]
      exact fun both => nomatch both.1
    rw [single, selected, taken, Gateway.port_setPort_self, general, asks.words]
    exact ⟨rfl, rfl, rfl, rfl⟩

end Sys2Proof.Machine
end

section
/-! SUPPORT. What the verdict on a FORWARD frame leaves, at receive completion and at a re-test (R83 to R87, R105, R107 to
R112). -/

open Sys2Proof

namespace Sys2Proof.Machine

/-! ## A frame beyond its meter that asks for a PAUSE (R110) -/

/-- A PAUSE ask changes the pending request and nothing else (R38). -/
theorem pauseAsk_eq (q : Port) : q.pauseAsk = { q with pendingPause := q.pauseAsk.pendingPause } := by
  unfold Port.pauseAsk
  repeat' split
  all_goals rfl

theorem pauseAsk_asked (q : Port) (role : SlotRole) (record record' : Option DecisionRecord) :
    q.Asked { ({ q with role := role, record := record } : Port).pauseAsk with record := record' } := by
  have pending : ({ q with role := role, record := record } : Port).pauseAsk.pendingPause = q.pauseAsk.pendingPause := by
    unfold Port.pauseAsk
    by_cases asks : (q.online && q.words.pauseCount != 0) = true
    · have same : (({ q with role := role, record := record } : Port).online && q.words.pauseCount != 0) = true := asks
      rw [if_pos same, if_pos asks]
      cases q.slot <;> rfl
    · have same : ¬ (({ q with role := role, record := record } : Port).online && q.words.pauseCount != 0) = true := asks
      rw [if_neg same, if_neg asks]
  rw [pauseAsk_eq]
  exact ⟨rfl, rfl, rfl, rfl, rfl, rfl, pending⟩

/-- The part after the busy answer and the ask of PAUSE mode (R110). -/
def Gateway.busyAsked (g : Gateway) (p : PortId) (r : DecisionRecord) : Gateway :=
  (g.answerNak p r .nakBusy).modPort p Port.pauseAsk

theorem busyAsked_allBut (g : Gateway) (p : PortId) (r : DecisionRecord) :
    AllBut [portPart p, .counters] g (g.busyAsked p r) :=
  (answerNak_allBut g p r .nakBusy).trans ((modPort_allBut _ p _).mono (by simp))

theorem busyAsked_port (g : Gateway) (p : PortId) (r : DecisionRecord) :
    (g.busyAsked p r).port p =
      ({ g.port p with role := .answered .nakBusy, record := some { r with outcome := .answer .nakBusy } } : Port).pauseAsk := by
  rw [Gateway.busyAsked, Gateway.port_modPort_self, answerNak_port]

theorem busyAsked_counted (g : Gateway) (p : PortId) (r : DecisionRecord) :
    CountedAll [portCounterIndex p .busy] g (g.busyAsked p r) := by
  have answered := answerNak_counted g p r .nakBusy
  refine answered.all.of_counters_eq ?_
  simp [Gateway.busyAsked]

/-- A frame beyond its meter in PAUSE mode is answered busy, and the receiving port is asked for a PAUSE (R110). -/
theorem exceed_pause {g t : Gateway} {p : PortId} (settled : g.Settled) (off : g.general.noticeEnable = false)
    (r : DecisionRecord) (k : Nat) (outcome : ((g.busyAsked p r).reportExceed p r k).settle = t) :
    AllBut [portPart p, .counters, .monitor] g t ∧ (t.port p).role = .answered .nakBusy ∧
      CountedAll (portCounterIndex p .busy :: exceedReports r k) g t ∧ (r.reported = false → Latched .meterExceed t) ∧
      ((g.port p).state = .active → g.AskTaken t p) := by
  have asked := busyAsked_allBut g p r
  have general : (g.busyAsked p r).general = g.general := asked .general (by cases p <;> decide)
  have report := reportExceed_reported (g := g.busyAsked p r) (by rw [general]; exact off) p r k
  obtain ⟨record, port, -⟩ := report.port
  rw [busyAsked_port] at port
  have still := other_of_frame (p := p) asked (by decide) (by decide)
  have other : (((g.busyAsked p r).reportExceed p r k).port p.other).Settled := by
    rw [report.other, still]
    exact settled.port p.other
  have asks := pauseAsk_asked (g.port p) (.answered .nakBusy) (some { r with outcome := .answer .nakBusy }) record
  rw [← port] at asks
  have sends := pauseAsk_sendsOnly
    { g.port p with role := .answered .nakBusy, record := some { r with outcome := .answer .nakBusy } }
  have role : (((g.busyAsked p r).reportExceed p r k).port p).role = .answered .nakBusy := by
    rw [port]
    exact sends.role
  have young : ((g.busyAsked p r).reportExceed p r k).NothingAged := by
    intro x
    rcases PortId.eq_or_other p x with rfl | rfl
    · exact Port.nothingAged_congr asks.state asks.slot asks.pause asks.urgent asks.normal asks.words
        (settled.port x).nothingAged
    · exact other.nothingAged
  have generals : ((g.busyAsked p r).reportExceed p r k).general = (g.busyAsked p r).general :=
    report.frame .general (by cases p <;> decide)
  have taken := fun active => askTaken_settle settled active (generals.trans general) asks young other
  have latched := fun fresh => settle_latched (report.latched fresh)
  obtain ⟨selects, sent⟩ := selectEgress_of_nothingAged _ p young
  rw [← settle_of_single young other, outcome] at selects sent
  rw [outcome] at taken latched
  have counters : t.counters = ((g.busyAsked p r).reportExceed p r k).counters := selects .counters (by cases p <;> decide)
  have frame := (asked.mono (by simp)).trans (report.frame.trans (selects.mono (by simp)))
  exact ⟨frame, (sent p).role.trans role,
    ((busyAsked_counted g p r).append report.counted).of_counters_eq counters, latched, taken⟩

/-! ## A frame beyond its meter in MARK mode (R111) -/

/-- A frame beyond its meter in MARK mode is claimed into NORMAL without a debit (R111). -/
theorem exceed_mark {g t : Gateway} {p : PortId} (settled : g.Settled) (off : g.general.noticeEnable = false)
    (full : (g.port p.other).slot ≠ .empty) (r : DecisionRecord) (f : Frame) (k : Nat)
    (outcome : ((g.claimForward p r f .normal).reportExceed p r k).settle = t) :
    ForwardClaim (portCounterIndex p .claimed :: exceedReports r k) g p (forwardBuffer p r f) .normal t ∧
      (r.reported = false → Latched .meterExceed t) := by
  have claim := claimForward_claims settled off p r f .normal
  have general : (g.claimForward p r f .normal).general = g.general := claim.frame .general (by decide)
  have report := reportExceed_reported (g := g.claimForward p r f .normal) (by rw [general]; exact off) p r k
  rw [← outcome]
  exact ⟨(claim.reported report).settle full, fun fresh => settle_latched (report.latched fresh)⟩

/-! ## The claim that a verdict of pass or conform makes (R84, R85) -/

/-- The part in which the frame is claimed: as it is, or with the meter debited that the frame conforms to (R105). -/
def ForwardVerdict.debited (g : Gateway) (r : DecisionRecord) : ForwardVerdict → Gateway
  | .conform k => g.debit k r.byteCount
  | .pass => g
  | .noCapacity => g
  | .exceed _ _ => g

theorem debited_allBut (g : Gateway) (r : DecisionRecord) (v : ForwardVerdict) : AllBut [.meters] g (v.debited g r) := by
  cases v with
  | conform k => exact debit_allBut g k r.byteCount
  | pass => exact .refl _ g
  | noCapacity => exact .refl _ g
  | exceed k mode => exact .refl _ g

theorem debited_port (g : Gateway) (r : DecisionRecord) (v : ForwardVerdict) (x : PortId) : (v.debited g r).port x = g.port x :=
  port_of_allBut (debited_allBut g r v) (by decide) (by decide) x

theorem debited_settled {g : Gateway} (settled : g.Settled) (r : DecisionRecord) (v : ForwardVerdict) :
    (v.debited g r).Settled :=
  settled_of_same (debited_allBut g r v .portA (by decide)) (debited_allBut g r v .portB (by decide)) settled

/-- What a claimed frame leaves, its slot full and notices off (R84, R85, R105). -/
theorem claimed_outcome {g t : Gateway} {p : PortId} (settled : g.Settled) (off : g.general.noticeEnable = false)
    (full : (g.port p.other).slot ≠ .empty) (r : DecisionRecord) (f : Frame) (wait : Gateway → Gateway)
    {v : ForwardVerdict} (claims : v = .pass ∨ ∃ k, v = .conform k) (outcome : (g.carryForward p r f wait v).settle = t) :
    ForwardClaim [portCounterIndex p .claimed] (v.debited g r) p (forwardBuffer p r f) (r.queue.getD .normal) t := by
  have general : (v.debited g r).general = g.general := debited_allBut g r v .general (by decide)
  have claim := claimForward_claims (debited_settled settled r v) (by rw [general]; exact off) p r f (r.queue.getD .normal)
  have done := claim.settle (by rw [debited_port]; exact full)
  rw [← outcome]
  rcases claims with rfl | ⟨k, rfl⟩
  · exact done
  · exact done

end Sys2Proof.Machine
end

section
/-! SUPPORT. The obligations on FORWARD frames with capacity, at receive completion (R58, R59, R84, R85, R92 to R95, R105,
R107 to R111). -/

open Sys2Proof

namespace Sys2Proof.Machine

/-! ## The verdict at receive completion (R83, R84, R104) -/

theorem looked_meters (g : Gateway) (p : PortId) (f : Frame) : (g.looked p f).meters = g.meters :=
  looked_allBut g p f .meters (by cases p <;> decide)

theorem looked_general (g : Gateway) (p : PortId) (f : Frame) : (g.looked p f).general = g.general :=
  looked_allBut g p f .general (by cases p <;> decide)

theorem looked_free (g : Gateway) (p : PortId) (f : Frame) : (g.looked p f).free = g.free :=
  looked_allBut g p f .free (by cases p <;> decide)

theorem looked_treatment {g : Gateway} {r : DecisionRecord} (forward : r.action = some .forward) (p : PortId) (f : Frame) :
    (g.looked p f).treatmentOf r = r.meter.map fun k => ((g.meter k).enabled, (g.meter k).mode) := by
  simp [Gateway.treatmentOf, DecisionRecord.forwards, forward, looked_meter]

theorem looked_capacity {g : Gateway} {p : PortId} (active : (g.port p.other).state = .active) (buffers : 2 ≤ g.free)
    (room : (g.port p.other).egressCount < 24) (f : Frame) : (g.looked p f).capacity p = true :=
  capacity_of_room (by rw [looked_other]; exact active) (by rw [looked_free]; exact buffers)
    (by rw [looked_other]; exact room)

/-- A frame within the credit of the meter it names passes, or conforms to it (R84). -/
theorem verdict_of_credit {g : Gateway} {p : PortId} {f : Frame} {r : DecisionRecord}
    (forward : r.action = some .forward) (capacity : (g.looked p f).capacity p = true)
    (credit : ∀ k, r.meter = some k → (g.meter k).enabled = true → r.byteCount ≤ (g.meter k).credit.toNat) :
    ((g.looked p f).forwardVerdict p r ((g.looked p f).treatmentOf r) = .pass ∧
        ∀ k, r.meter = some k → (g.meter k).enabled = false) ∨
      ∃ k, (g.looked p f).forwardVerdict p r ((g.looked p f).treatmentOf r) = .conform k ∧ r.meter = some k ∧
        (g.meter k).enabled = true ∧ r.byteCount ≤ (g.meter k).credit.toNat := by
  rw [looked_treatment forward]
  cases meter : r.meter with
  | none => exact .inl ⟨forwardVerdict_of_noMeter capacity meter _, nofun⟩
  | some k =>
    cases enabled : (g.meter k).enabled with
    | false =>
      refine .inl ⟨forwardVerdict_of_disabled capacity (by simp [enabled]), fun k' same => ?_⟩
      cases same
      exact enabled
    | true =>
      have within := credit k meter enabled
      refine .inr ⟨k, ?_, rfl, enabled, within⟩
      rw [Option.map_some, enabled, forwardVerdict_of_enabled capacity meter, looked_meter, if_pos within]

/-- Settles O27, by the two verdicts that claim and the claim of the one frame they share. -/
theorem forwardClaimQueuesFrame : Obligations.ForwardClaimQueuesFrame := by
  intro s p f receives settled routes crosses buffers room credit off full r b
  obtain ⟨forward, -, -, active⟩ := id crosses
  have frame := looked_allBut s.gw p f
  have buffer : forwardBuffer p r f = b := by
    rw [forwardBuffer, rewriteFrame_of_forward forward]
    rfl
  have verdict := verdict_of_credit (r := r) forward (looked_capacity active buffers room f) credit
  refine exec_of_effect (c := completion p f) ⟨rfl, ?_⟩
  rw [completion_of_routes receives routes, decideAction_of_forward forward, decideForward_of_crosses crosses]
  generalize (s.gw.looked p f).forwardVerdict p r ((s.gw.looked p f).treatmentOf r) = v at verdict ⊢
  have claims : v = .pass ∨ ∃ k, v = .conform k := verdict.imp And.left fun ⟨k, conform, _⟩ => ⟨k, conform⟩
  have claim := claimed_outcome (looked_settled settled p f) (by rw [looked_general]; exact off)
    (by rw [looked_other]; exact full) r f (·.holdOrBusy p r) claims rfl
  have debited := debited_allBut (s.gw.looked p f) r v
  have other : (v.debited (s.gw.looked p f) r).port p.other = s.gw.port p.other :=
    (debited_port _ r v _).trans (looked_other _ _ _)
  have free : (v.debited (s.gw.looked p f) r).free = (s.gw.looked p f).free := debited .free (by decide)
  have route : (v.debited (s.gw.looked p f) r).route = s.gw.routeHit p f := debited .route (by decide)
  have good : CountedAll [portCounterIndex p .rxGood] s.gw (v.debited (s.gw.looked p f) r) :=
    (looked_counted s.gw p f).of_counters_eq (debited .counters (by decide))
  generalize ((s.gw.looked p f).carryForward p r f (·.holdOrBusy p r) v).settle = t at claim ⊢
  obtain ⟨others, less, claimed, role, slot, urgent, normal, -⟩ := claim
  have routeKept : t.route = (v.debited (s.gw.looked p f) r).route := others .route (by decide)
  have meters : t.meters = (v.debited (s.gw.looked p f) r).meters := others .meters (by decide)
  have meter : ∀ k, t.meter k = (v.debited (s.gw.looked p f) r).meter k := fun k => by rw [Gateway.meter, Gateway.meter, meters]
  rw [other, buffer] at urgent normal
  rw [other] at slot
  obtain ⟨joinsUrgent, joinsNormal⟩ := enqueue_queues (s.gw.port p.other) r.queue b
  have frameAll : AllBut [.portA, .portB, .free, .meters, .route, .counters, .monitor] s.gw t :=
    (frame.mono (by cases p <;> decide)).trans ((debited.mono (by decide)).trans (others.mono (by decide)))
  refine ⟨frameAll, role, ?_, routeKept.trans route, good.append claimed, slot, urgent.trans joinsUrgent,
    normal.trans joinsNormal, fun k named enabled inside => ?_, fun k kept => ?_⟩
  · rw [less, free, looked_free]
    omega
  · rw [meter]
    rcases verdict with ⟨-, disabled⟩ | ⟨j, rfl, names, -, within⟩
    · rw [disabled k named] at enabled
      cases enabled
    · cases named.symm.trans names
      have taken := debit_credit (g := s.gw.looked p f) (k := k) (n := r.byteCount) (by rw [looked_meters]; exact inside)
        (by rw [looked_meter]; exact within)
      rw [looked_meter] at taken
      exact taken
  · rw [meter, ← looked_meter s.gw p f]
    rcases verdict with ⟨rfl, -⟩ | ⟨j, rfl, names, enabled, -⟩
    · rfl
    · have differs : k ≠ j := by
        rintro rfl
        rcases kept with unnamed | disabled
        · exact unnamed names
        · rw [enabled] at disabled
          cases disabled
      rw [ForwardVerdict.debited, debit_meter, if_neg fun same => differs same.1]

/-! ## A claimed frame that goes straight into the slot (R57 to R59) -/

theorem selectFrame_loads {g : Gateway} {p : PortId} {e : QueueEntry} {q : Port} (head : (g.port p).head = some (e, q))
    (young : (g.port p).isOld e = false) (fuel : Nat) :
    g.selectFrame (fuel + 1) p = g.setPort p (q.loadSlot (.pool e.buf)) := by
  simp only [Gateway.selectFrame, head, young, Bool.false_eq_true, if_false]

theorem takePause_of_unasked {g : Gateway} {p : PortId} (pending : (g.port p).pendingPause = false) : g.takePause p = g := by
  simp [Gateway.takePause, pending]

/-- A head that is not old moves to the empty slot of a RUNNING port with no pending request (R58, R59). -/
theorem selectEgress_loads {g : Gateway} {p : PortId} {e : QueueEntry} {q : Port} (active : (g.port p).state = .active)
    (empty : (g.port p).slot = .empty) (pending : (g.port p).pendingPause = false) (running : (g.port p).pause = .running)
    (head : (g.port p).head = some (e, q)) (young : (g.port p).isOld e = false) :
    g.selectEgress p = g.setPort p (q.loadSlot (.pool e.buf)) := by
  unfold Gateway.selectEgress
  rw [if_pos ⟨active, empty⟩]
  dsimp only
  rw [takePause_of_unasked pending, if_pos ⟨empty, running⟩]
  exact selectFrame_loads head young _

/-- The frame that joins one of two empty queues is the head of its port. -/
theorem head_enqueue {q : Port} (urgent : q.urgent = []) (normal : q.normal = []) (queue : QueueName) (b : PoolBuffer) :
    (q.enqueue queue b).head = some (⟨b, 0⟩, q) := by
  cases q
  dsimp only at urgent normal
  subst urgent normal
  cases queue <;> rfl

theorem egressCount_of_nothing {q : Port} (empty : q.slot = .empty) (urgent : q.urgent = []) (normal : q.normal = []) :
    q.egressCount = 0 := by
  simp [Port.egressCount, TxSlot.poolFrames, empty, urgent, normal]

/-- With pool pause and notices off, a re-evaluation of POOL_LOW touches the Event Monitor alone (R50, R51). -/
theorem evalPool_of_off_allBut {g : Gateway} (off : g.general.noticeEnable = false) (quiet : g.general.poolPause = false) :
    AllBut [.monitor] g g.evalPool := by
  rw [evalPool_of_off g off quiet]
  exact .of_same fun x => by cases x <;> simp [Part.Same]

/-- Settles O28, by the claim and the one selection it prompts. -/
theorem forwardClaimFillsIdleSlot : Obligations.ForwardClaimFillsIdleSlot := by
  intro s p f receives settled routes crosses buffers unnamed off quiet empty running
  obtain ⟨forward, -, -, active⟩ := id crosses
  obtain ⟨pending, queues⟩ := settled.port p.other active empty
  obtain ⟨urgent, normal⟩ := queues running
  have room : (s.gw.port p.other).egressCount < 24 := by
    rw [egressCount_of_nothing empty urgent normal]
    decide
  refine exec_of_effect (c := completion p f) ⟨rfl, ?_⟩
  rw [completion_of_routes receives routes, decideAction_of_forward forward, decideForward_of_crosses crosses,
    forwardVerdict_of_noMeter (looked_capacity active buffers room f) unnamed, Gateway.carryForward, claimForward_eq]
  generalize (s.gw.routeRecord p f).queue.getD .normal = queue
  generalize s.gw.routeRecord p f = r
  have base := looked_settled settled p f
  have looked := looked_allBut s.gw p f
  have free := looked_free s.gw p f
  have general := looked_general s.gw p f
  have otherPort := looked_other s.gw p f
  generalize s.gw.looked p f = h at base looked free general otherPort ⊢
  have taken := forwarded_allBut h p r f queue
  have generals : (h.forwarded p r f queue).general = h.general := taken .general (by decide)
  have evaluated := evalPool_of_off_allBut (g := h.forwarded p r f queue) (by rw [generals, general]; exact off)
    (by rw [generals, general]; exact quiet)
  have ports := port_of_allBut evaluated (by decide) (by decide)
  have own : ((h.forwarded p r f queue).evalPool.port p).Settled := by
    rw [ports, forwarded_port]
    exact ack_settled (base.port p)
  have other : (h.forwarded p r f queue).evalPool.port p.other = (s.gw.port p.other).enqueue queue (forwardBuffer p r f) := by
    rw [ports, forwarded_other, otherPort]
  have young := (evalPool_sendsOnly _).keeps_nothingAged (forwarded_nothingAged base p r f queue)
  have role : ((h.forwarded p r f queue).evalPool.port p).role = .answered .ack := by
    rw [ports, forwarded_port]
  have freed : (h.forwarded p r f queue).evalPool.free = (h.forwarded p r f queue).free := evaluated .free (by decide)
  have frame : AllBut [.portA, .portB, .free, .route, .counters, .monitor] s.gw (h.forwarded p r f queue).evalPool :=
    (looked.mono (by cases p <;> decide)).trans ((taken.mono (by decide)).trans (evaluated.mono (by decide)))
  generalize (h.forwarded p r f queue).evalPool = c at own other young role freed frame ⊢
  have same : ∀ q : Port, (q.enqueue queue (forwardBuffer p r f)).state = q.state ∧
      (q.enqueue queue (forwardBuffer p r f)).pendingPause = q.pendingPause ∧
      (q.enqueue queue (forwardBuffer p r f)).pause = q.pause := fun q => by cases queue <;> exact ⟨rfl, rfl, rfl⟩
  obtain ⟨stateKept, pendingKept, pauseKept⟩ := same (s.gw.port p.other)
  have loads : c.settle = c.setPort p.other ((s.gw.port p.other).loadSlot (.pool (forwardBuffer p r f))) := by
    rw [settle_of_single (p := p.other) young (by rw [PortId.other_other]; exact own)]
    refine selectEgress_loads (e := ⟨forwardBuffer p r f, 0⟩) ?_ ?_ ?_ ?_ ?_ (isOld_of_age_zero _ _)
    · rw [other, stateKept, active]
    · rw [other, enqueue_slot, empty]
    · rw [other, pendingKept, pending]
    · rw [other, pauseKept, running]
    · rw [other]
      exact head_enqueue urgent normal queue _
  rw [loads]
  have selected : AllBut [.portA, .portB] c (c.setPort p.other ((s.gw.port p.other).loadSlot (.pool (forwardBuffer p r f)))) :=
    (setPort_allBut c p.other _).mono (by cases p <;> decide)
  refine ⟨frame.trans (selected.mono (by decide)), ?_, ?_, ?_⟩
  · have kept : (c.setPort p.other ((s.gw.port p.other).loadSlot (.pool (forwardBuffer p r f)))).port p = c.port p := by
      cases p <;> rfl
    rw [kept, role]
  · rw [Gateway.free_setPort, freed, forwarded_free, free]
    omega
  · rw [Gateway.port_setPort_self]
    exact ⟨rfl, rfl, rfl, urgent, normal⟩

/-! ## A frame beyond its meter at receive completion (R84, R107 to R111) -/

theorem routeRecord_fresh (g : Gateway) (p : PortId) (f : Frame) : (g.routeRecord p f).reported = false := by
  unfold Gateway.routeRecord
  split <;> rfl

theorem exceedReports_of_fresh {r : DecisionRecord} (fresh : r.reported = false) (k : Nat) : exceedReports r k = [exceedIndex k] := by
  rw [exceedReports, if_neg (by simp [fresh])]

/-- A frame beyond its meter in HOLD mode holds, or is answered busy at once (R86, R109). -/
theorem exceed_hold {g t : Gateway} {p : PortId} (settled : g.Settled) (off : g.general.noticeEnable = false)
    (r : DecisionRecord) (k : Nat) (outcome : ((g.holdOrBusy p r).reportExceed p r k).settle = t) :
    AllBut [portPart p, .counters, .monitor] g t ∧ (r.reported = false → Latched .meterExceed t) ∧
      ((g.port p).words.holdLimit ≠ 0 →
        (t.port p).role = .holding ((g.port p).words.holdLimit.toNat * 64) false ∧
          (t.port p).record.bind DecisionRecord.treatment = g.treatmentOf r ∧
          CountedAll (portCounterIndex p .held :: exceedReports r k) g t) ∧
      ((g.port p).words.holdLimit = 0 →
        (t.port p).role = .answered .nakBusy ∧ CountedAll (portCounterIndex p .busy :: exceedReports r k) g t) := by
  have waits := holdOrBusy_allBut g p r
  obtain ⟨holds, answers⟩ := holdOrBusy_outcome g p r
  have general : (g.holdOrBusy p r).general = g.general := waits .general (by cases p <;> decide)
  have report := reportExceed_reported (g := g.holdOrBusy p r) (by rw [general]; exact off) p r k
  rw [settle_of_settled _ (report.settled (holdOrBusy_settled settled p r))] at outcome
  rw [outcome] at report
  obtain ⟨record, port, treatment⟩ := report.port
  refine ⟨(waits.mono (by simp)).trans report.frame, report.latched, fun limit => ?_, fun limit => ?_⟩
  · obtain ⟨now, held⟩ := holds limit
    rw [now] at port treatment
    rw [port]
    exact ⟨rfl, treatment, held.all.append report.counted⟩
  · obtain ⟨now, busy⟩ := answers limit
    rw [now] at port
    rw [port]
    exact ⟨rfl, busy.all.append report.counted⟩

/-- Settles O29, by the four modes of a meter. -/
theorem meterModeDecides : Obligations.MeterModeDecides := by
  intro s p f k receives settled routes crosses buffers room named enabled short off full
  obtain ⟨forward, -, -, active⟩ := id crosses
  have fresh := routeRecord_fresh s.gw p f
  have reports := exceedReports_of_fresh fresh k
  have capacity := looked_capacity active buffers room f
  have treatment : (s.gw.looked p f).treatmentOf (s.gw.routeRecord p f) = some (true, (s.gw.meter k).mode) := by
    rw [looked_treatment forward, named, Option.map_some, enabled]
  have rewritten : forwardBuffer p (s.gw.routeRecord p f) f =
      ⟨rewriteFrame (s.gw.routeRecord p f) f, p, .claimed, false⟩ := rfl
  refine exec_of_effect (c := completion p f) ⟨rfl, ?_⟩
  rw [completion_of_routes receives routes, decideAction_of_forward forward, decideForward_of_crosses crosses, treatment,
    forwardVerdict_of_enabled capacity named, looked_meter, if_neg (by omega)]
  generalize s.gw.routeRecord p f = r at fresh reports treatment rewritten named ⊢
  have base := looked_settled settled p f
  have looked := looked_allBut s.gw p f
  have good := looked_counted s.gw p f
  have route : (s.gw.looked p f).route = s.gw.routeHit p f := rfl
  have free := looked_free s.gw p f
  have port := looked_port s.gw p f
  have otherPort := looked_other s.gw p f
  have notices : (s.gw.looked p f).general.noticeEnable = false := by rw [looked_general]; exact off
  have fullSlot : ((s.gw.looked p f).port p.other).slot ≠ .empty := by rw [otherPort]; exact full
  have own1 := looked_general s.gw p f
  generalize s.gw.looked p f = h at base looked good route free port otherPort notices fullSlot own1 treatment ⊢
  have answered : ∀ t, AllBut [portPart p, .counters, .monitor] h t →
      AllBut [.portA, .portB, .free, .route, .counters, .monitor] s.gw t ∧ t.route = s.gw.routeHit p f ∧
        t.free = s.gw.free ∧ t.port p.other = s.gw.port p.other := by
    intro t others
    have routeKept : t.route = h.route := others .route (by cases p <;> decide)
    have freeKept : t.free = h.free := others .free (by cases p <;> decide)
    have still : t.port p.other = h.port p.other := other_of_frame others (by decide) (by decide)
    exact ⟨(looked.mono (by cases p <;> decide)).trans (others.mono (by cases p <;> decide)), routeKept.trans route,
      freeKept.trans free, still.trans otherPort⟩
  cases mode : (s.gw.meter k).mode with
  | drop =>
    obtain ⟨t, is⟩ : ∃ t, (h.carryForward p r f (·.holdOrBusy p r) (.exceed k .drop)).settle = t := ⟨_, rfl⟩
    obtain ⟨others, role, counted, latched⟩ := exceed_answered base notices p r k .nakRefuse t is
    obtain ⟨frame, routeKept, freeKept, still⟩ := answered t others
    rw [is]
    rw [reports] at counted
    exact ⟨frame, routeKept, latched fresh, fun _ => ⟨role, freeKept, still, good.append counted⟩, nofun, nofun, nofun, nofun⟩
  | pause =>
    obtain ⟨t, is⟩ : ∃ t, (h.carryForward p r f (·.holdOrBusy p r) (.exceed k .pause)).settle = t := ⟨_, rfl⟩
    obtain ⟨others, role, counted, latched, asks⟩ := exceed_pause base notices r k is
    obtain ⟨frame, routeKept, freeKept, still⟩ := answered t others
    have ask : s.gw.AskTaken t p := by
      have taken := asks (by rw [port]; exact receives.1)
      rw [Gateway.AskTaken, port, own1] at taken
      exact taken
    rw [is]
    rw [reports] at counted
    exact ⟨frame, routeKept, latched fresh, nofun, fun _ => ⟨role, freeKept, still, ask, good.append counted⟩, nofun, nofun,
      nofun⟩
  | hold =>
    obtain ⟨t, is⟩ : ∃ t, (h.carryForward p r f (·.holdOrBusy p r) (.exceed k .hold)).settle = t := ⟨_, rfl⟩
    obtain ⟨others, latched, holds, busy⟩ := exceed_hold base notices r k is
    obtain ⟨frame, routeKept, freeKept, -⟩ := answered t others
    rw [is]
    rw [port, reports] at holds busy
    rw [treatment, mode] at holds
    refine ⟨frame, routeKept, latched fresh, nofun, nofun, fun _ limit => ?_, fun _ limit => ?_, nofun⟩
    · obtain ⟨role, recorded, counted⟩ := holds limit
      exact ⟨role, freeKept, recorded, good.append counted⟩
    · obtain ⟨role, counted⟩ := busy limit
      exact ⟨role, freeKept, good.append counted⟩
  | mark =>
    obtain ⟨t, is⟩ : ∃ t, (h.carryForward p r f (·.holdOrBusy p r) (.exceed k .mark)).settle = t := ⟨_, rfl⟩
    obtain ⟨claim, latched⟩ := exceed_mark base notices fullSlot r f k is
    obtain ⟨others, less, counted, role, -, urgent, normal, -⟩ := claim
    have routeKept : t.route = h.route := others .route (by decide)
    rw [is]
    rw [reports] at counted
    rw [otherPort] at urgent normal
    refine ⟨(looked.mono (by cases p <;> decide)).trans (others.mono (by decide)), routeKept.trans route, latched fresh, nofun,
      nofun, nofun, nofun, fun _ => ⟨role, ?_, urgent, normal, good.append counted⟩⟩
    rw [less, free]
    omega

end Sys2Proof.Machine
end

section
/-! SUPPORT. Re-tests of holds (R69, R78, R86, R87, R112), and the claims of management requests and DIVERT frames (R68, R78,
R118, R119, R135). -/

open Sys2Proof

namespace Sys2Proof.Machine

/-! ## A prompted re-test (R87) -/

/-- The part once the prompt of a hold is taken off it (R87). -/
def Gateway.retested (g : Gateway) (p : PortId) : Gateway :=
  g.modPort p Port.takeRetest

theorem retested_port {g : Gateway} {p : PortId} {timer : Nat} {retest : Bool}
    (holding : (g.port p).role = .holding timer retest) :
    (g.retested p).port p = { g.port p with role := .holding timer false } := by
  simp [Gateway.retested, Port.takeRetest, holding]

theorem retested_other (g : Gateway) (p : PortId) : (g.retested p).port p.other = g.port p.other :=
  Gateway.port_modPort_other _ _ _

theorem retested_allBut (g : Gateway) (p : PortId) : AllBut [portPart p] g (g.retested p) :=
  modPort_allBut g p _

theorem retested_settled {g : Gateway} (settled : g.Settled) (p : PortId) : (g.retested p).Settled := by
  refine receiveSide_settled settled p fun q => ?_
  cases role : q.role <;> simp [Port.takeRetest, role]

theorem holdRetest_of_prompted {g : Gateway} {p : PortId} {timer : Nat} {r : DecisionRecord} {st : Staged}
    (holding : (g.port p).role = .holding timer true) (record : (g.port p).record = some r)
    (staging : (g.port p).staging = some st) :
    g.holdRetest p = ((g.retested p).retestHold p r st.frame).settle := by
  simp [Gateway.holdRetest, Gateway.retested, holding, record, staging]

theorem holdRetest_of_unprompted {g : Gateway} {p : PortId} {timer : Nat} (holding : (g.port p).role = .holding timer false) :
    g.holdRetest p = g := by
  simp [Gateway.holdRetest, holding]

/-- What the recorded treatment says of a FORWARD hold that finds capacity (R84, R87, R112). -/
theorem retest_verdict {g : Gateway} {p : PortId} {r : DecisionRecord} (capacity : g.capacity p = true) :
    ((r.meter = none ∨ r.treatment = none ∨ r.treatment.map Prod.fst = some false) ∧
        g.forwardVerdict p r r.treatment = .pass) ∨
      ∃ k mode, r.meter = some k ∧ r.treatment = some (true, mode) ∧
        ((r.byteCount ≤ (g.meter k).credit.toNat ∧ g.forwardVerdict p r r.treatment = .conform k) ∨
          ((g.meter k).credit.toNat < r.byteCount ∧ g.forwardVerdict p r r.treatment = .exceed k mode)) := by
  cases meter : r.meter with
  | none => exact .inl ⟨.inl rfl, forwardVerdict_of_noMeter capacity meter _⟩
  | some k =>
    rcases treatment : r.treatment with _ | ⟨enabled, mode⟩
    · exact .inl ⟨.inr (.inl rfl), forwardVerdict_of_disabled capacity nofun⟩
    · cases enabled with
      | false => exact .inl ⟨.inr (.inr rfl), forwardVerdict_of_disabled capacity (by simp)⟩
      | true =>
        refine .inr ⟨k, mode, rfl, rfl, ?_⟩
        rw [forwardVerdict_of_enabled capacity meter]
        by_cases within : r.byteCount ≤ (g.meter k).credit.toNat
        · exact .inl ⟨within, if_pos within⟩
        · exact .inr ⟨by omega, if_neg within⟩

/-- Settles O33, by the three verdicts the recorded treatment can give. -/
theorem retestFollowsRecordedTreatment : Obligations.RetestFollowsRecordedTreatment := by
  intro s p timer r st holding record staging settled path forward buffers room active off full short b joins
  have buffer : forwardBuffer p r st.frame = b := by
    rw [forwardBuffer, rewriteFrame_of_forward forward]
    rfl
  have retests : effect (.holdRetest p) s.gw = ((s.gw.retested p).retestHold p r st.frame).settle :=
    holdRetest_of_prompted holding record staging
  refine exec_of_effect (c := .holdRetest p) ⟨rfl, ?_⟩
  rw [retests, Gateway.retestHold, if_neg path, if_neg (by simp [forward])]
  have base := retested_settled settled p
  have taken := retested_allBut s.gw p
  have port := retested_port holding
  have otherPort := retested_other s.gw p
  have free : (s.gw.retested p).free = s.gw.free := taken .free (by cases p <;> decide)
  have meters : (s.gw.retested p).meters = s.gw.meters := taken .meters (by cases p <;> decide)
  have general : (s.gw.retested p).general = s.gw.general := taken .general (by cases p <;> decide)
  have counters : (s.gw.retested p).counters = s.gw.counters := taken .counters (by cases p <;> decide)
  have notices : (s.gw.retested p).general.noticeEnable = false := by rw [general]; exact off
  have fullSlot : ((s.gw.retested p).port p.other).slot ≠ .empty := by rw [otherPort]; exact full
  have verdict := retest_verdict (r := r) (capacity_of_room (g := s.gw.retested p) (p := p) (by rw [otherPort]; exact active)
    (by rw [free]; exact buffers) (by rw [otherPort]; exact room))
  have meter : ∀ k, (s.gw.retested p).meter k = s.gw.meter k := fun k => by rw [Gateway.meter, Gateway.meter, meters]
  generalize s.gw.retested p = h at base taken port otherPort free meters general counters notices fullSlot verdict meter ⊢
  generalize h.forwardVerdict p r r.treatment = v at verdict ⊢
  have counts : ∀ {is : List Nat} {t : Gateway}, CountedAll is h t → CountedAll is s.gw t := by
    intro is t all
    rw [CountedAll, ← counters]
    exact all
  have joined : ∀ {is : List Nat} {t : Gateway} {h' : Gateway} {queue : QueueName}, h'.port p.other = s.gw.port p.other →
      h'.free = s.gw.free → ForwardClaim is h' p b queue t →
      (t.port p).role = .answered .ack ∧ t.free + 1 = s.gw.free ∧
        (queue = .urgent → (t.port p.other).urgent = (s.gw.port p.other).urgent ++ [⟨b, 0⟩] ∧
          (t.port p.other).normal = (s.gw.port p.other).normal) ∧
        (queue = .normal → (t.port p.other).urgent = (s.gw.port p.other).urgent ∧
          (t.port p.other).normal = (s.gw.port p.other).normal ++ [⟨b, 0⟩]) := by
    intro is t h' queue same buffersKept claim
    obtain ⟨-, less, -, role, -, urgent, normal, -⟩ := claim
    rw [same] at urgent normal
    refine ⟨role, by omega, ?_, ?_⟩
    · rintro rfl
      exact ⟨urgent, normal⟩
    · rintro rfl
      exact ⟨urgent, normal⟩
  obtain ⟨t, is⟩ : ∃ t, (h.carryForward p r st.frame id v).settle = t := ⟨_, rfl⟩
  rw [is]
  have claimed : (v = .pass ∨ ∃ k, v = .conform k) →
      AllBut [.portA, .portB, .free, .meters, .counters, .monitor] s.gw t ∧ t.meters = (v.debited h r).meters ∧
        joins ⟨s.pending, t⟩ (r.queue = some .urgent) ∧ Counted (portCounterIndex p .claimed) s.gw t := by
    intro claims
    have claim := claimed_outcome base notices fullSlot r st.frame id claims is
    rw [buffer] at claim
    have debited := debited_allBut h r v
    have freeKept : (v.debited h r).free = h.free := debited .free (by decide)
    have countersKept : (v.debited h r).counters = h.counters := debited .counters (by decide)
    obtain ⟨role, less, urgent, normal⟩ :=
      joined ((debited_port h r v p.other).trans otherPort) (freeKept.trans free) claim
    have metersKept : t.meters = (v.debited h r).meters := claim.frame .meters (by decide)
    have rise : CountedAll [portCounterIndex p .claimed] h t := by
      rw [CountedAll, ← countersKept]
      exact claim.counted
    refine ⟨(taken.mono (by cases p <;> decide)).trans ((debited.mono (by decide)).trans (claim.frame.mono (by decide))),
      metersKept, ⟨role, less, fun queue => urgent (by rw [queue]; rfl), fun queue => normal ?_⟩, counts rise⟩
    rcases name : r.queue with _ | _ | _
    · rfl
    · exact absurd name queue
    · rfl
  rcases verdict with ⟨unmetered, rfl⟩ | ⟨k, mode, named, treatment, ⟨within, rfl⟩ | ⟨beyond, rfl⟩⟩
  · obtain ⟨frame, metersKept, claim⟩ := claimed (.inl rfl)
    have clash : ∀ k mode, r.meter = some k → r.treatment = some (true, mode) → False := by
      intro k mode named treatment
      rcases unmetered with none | none | disabled
      · rw [named] at none
        cases none
      · rw [treatment] at none
        cases none
      · rw [treatment] at disabled
        cases disabled
    exact ⟨frame, fun _ => claim, fun _ => metersKept.trans meters,
      fun k mode named treatment => (clash k mode named treatment).elim,
      fun k mode named treatment => (clash k mode named treatment).elim⟩
  · obtain ⟨frame, metersKept, claim⟩ := claimed (.inr ⟨k, rfl⟩)
    refine ⟨frame, fun _ => claim, fun unmetered => ?_, fun k' mode' named' _ beyond => ?_, fun k' mode' named' _ _ inside => ?_⟩
    · simp [named, treatment] at unmetered
    · cases named.symm.trans named'
      rw [meter] at within
      exact absurd beyond (by simp only [short]; omega)
    · cases named.symm.trans named'
      have debit := debit_credit (g := h) (k := k) (n := r.byteCount) (by rw [meters]; exact inside) within
      have now : t.meter k = (h.debit k r.byteCount).meter k := by
        rw [Gateway.meter, Gateway.meter, metersKept]
        rfl
      rw [now, debit, meter]
  · have notShort : ¬ (r.meter = none ∨ r.treatment = none ∨ r.treatment.map Prod.fst = some false) := by
      simp [named, treatment]
    have notWithin : ¬ ∃ k ∈ r.meter, ¬ short k := by
      rintro ⟨k', named', enough⟩
      cases named.symm.trans named'
      rw [meter] at beyond
      exact enough beyond
    have notClaimed : ¬ (r.meter = none ∨ r.treatment = none ∨ r.treatment.map Prod.fst = some false ∨
        ∃ k ∈ r.meter, ¬ short k) := fun claims =>
      claims.elim (notShort ∘ .inl) fun rest => rest.elim (notShort ∘ .inr ∘ .inl) fun rest =>
        rest.elim (notShort ∘ .inr ∘ .inr) notWithin
    have answered : AllBut [portPart p, .counters, .monitor] h t →
        AllBut [.portA, .portB, .free, .meters, .counters, .monitor] s.gw t ∧ t.free = s.gw.free ∧
          t.port p.other = s.gw.port p.other ∧ t.meters = s.gw.meters := by
      intro others
      have freeKept : t.free = h.free := others .free (by cases p <;> decide)
      have metersKept : t.meters = h.meters := others .meters (by cases p <;> decide)
      have still : t.port p.other = h.port p.other := other_of_frame others (by decide) (by decide)
      exact ⟨(taken.mono (by cases p <;> decide)).trans (others.mono (by cases p <;> decide)), freeKept.trans free,
        still.trans otherPort, metersKept.trans meters⟩
    have conforms : ∀ k' mode', r.meter = some k' → r.treatment = some (true, mode') → ¬ short k' → k' < s.gw.meters.length →
        (t.meter k').credit.toNat + r.byteCount = (s.gw.meter k').credit.toNat :=
      fun k' mode' named' _ enough => (notWithin ⟨k', named', enough⟩).elim
    cases mode with
    | drop =>
      obtain ⟨others, role, counted, latched⟩ := exceed_answered base notices p r k .nakRefuse t is
      obtain ⟨frame, freeKept, still, metersKept⟩ := answered others
      refine ⟨frame, fun claims => (notClaimed claims).elim, fun unmetered => (notShort unmetered).elim,
        fun k' mode' named' treatment' _ => ?_, conforms⟩
      cases named.symm.trans named'
      cases treatment.symm.trans treatment'
      exact ⟨nofun, fun _ => ⟨role, freeKept, counts counted⟩, nofun, nofun, fun _ => still, metersKept, latched⟩
    | pause =>
      obtain ⟨others, role, counted, latched, asks⟩ := exceed_pause base notices r k is
      obtain ⟨frame, freeKept, still, metersKept⟩ := answered others
      refine ⟨frame, fun claims => (notClaimed claims).elim, fun unmetered => (notShort unmetered).elim,
        fun k' mode' named' treatment' _ => ?_, conforms⟩
      cases named.symm.trans named'
      cases treatment.symm.trans treatment'
      refine ⟨nofun, nofun, fun _ => ⟨role, freeKept, fun receiving => ?_, counts counted⟩, nofun, fun _ => still, metersKept,
        latched⟩
      have ask := asks (by rw [port]; exact receiving)
      rw [Gateway.AskTaken, port, general] at ask
      exact ask
    | hold =>
      have report := reportExceed_reported notices p r k
      have now : (h.reportExceed p r k).settle = t := is
      rw [settle_of_settled _ (report.settled base)] at now
      rw [now] at report
      obtain ⟨kept, ports, -⟩ := report.port
      rw [port] at ports
      obtain ⟨frame, freeKept, still, metersKept⟩ := answered (report.frame.mono (by simp))
      refine ⟨frame, fun claims => (notClaimed claims).elim, fun unmetered => (notShort unmetered).elim,
        fun k' mode' named' treatment' _ => ?_, conforms⟩
      cases named.symm.trans named'
      cases treatment.symm.trans treatment'
      refine ⟨fun _ => ⟨?_, freeKept, counts report.counted⟩, nofun, nofun, nofun, fun _ => still, metersKept, report.latched⟩
      rw [ports]
    | mark =>
      obtain ⟨claim, latched⟩ := exceed_mark base notices fullSlot r st.frame k is
      rw [buffer] at claim
      obtain ⟨role, less, -, normal⟩ := joined otherPort free claim
      have metersKept : t.meters = h.meters := claim.frame .meters (by decide)
      refine ⟨(taken.mono (by cases p <;> decide)).trans (claim.frame.mono (by decide)), fun claims => (notClaimed claims).elim,
        fun unmetered => (notShort unmetered).elim, fun k' mode' named' treatment' _ => ?_, conforms⟩
      cases named.symm.trans named'
      cases treatment.symm.trans treatment'
      exact ⟨nofun, nofun, nofun, fun _ => ⟨⟨role, less, False.elim, fun _ => normal rfl⟩, counts claim.counted⟩, nofun,
        metersKept.trans meters, latched⟩

end Sys2Proof.Machine
end

section
/-! SUPPORT. The claims of management requests and DIVERT frames, at receive completion and at a re-test (R68, R69, R78, R87,
R118, R119, R135). -/

open Sys2Proof

namespace Sys2Proof.Machine

/-! ## The first entry that meets a condition -/

theorem map_updateFirst {α : Type} {v : AgentEntry → α} {f : AgentEntry → AgentEntry} (same : ∀ e, v (f e) = v e)
    (c : AgentEntry → Bool) (l : List AgentEntry) : (updateFirst c f l).map v = l.map v := by
  induction l with
  | nil => rfl
  | cons e rest ih =>
    rw [updateFirst]
    split
    · simp [same]
    · simp [ih]

theorem updateFirst_append_of_none {c : AgentEntry → Bool} {l : List AgentEntry} (none : l.find? c = none)
    {e : AgentEntry} (met : c e = true) (f : AgentEntry → AgentEntry) : updateFirst c f (l ++ [e]) = l ++ [f e] := by
  induction l with
  | nil => simp [updateFirst, met]
  | cons x rest ih =>
    have unmet := List.find?_eq_none.mp none
    have others := ih (List.find?_eq_none.mpr fun y inside => unmet y (List.mem_cons_of_mem x inside))
    rw [List.cons_append, updateFirst, if_neg (unmet x List.mem_cons_self), others, List.cons_append]

/-! ## A buffer claimed with ACK (R26, R50) -/

/-- What the acknowledgement of a claim and the re-evaluation of POOL_LOW leave, notices off. -/
theorem acked_outcome {g : Gateway} (settled : g.Settled) (off : g.general.noticeEnable = false) (p : PortId) :
    AllBut [.portA, .portB, .counters, .monitor] g (g.answerAck p).evalPool ∧
      Counted (portCounterIndex p .claimed) g (g.answerAck p).evalPool ∧
      ((g.answerAck p).evalPool.port p).role = .answered .ack ∧ (g.answerAck p).evalPool.NothingAged := by
  have acks := answerAck_allBut g p
  have general : (g.answerAck p).general = g.general := acks .general (by cases p <;> decide)
  obtain ⟨evaluated, -⟩ := evalPool_of_noticeOff (g := g.answerAck p) (by rw [general]; exact off)
  have counters : (g.answerAck p).evalPool.counters = (g.answerAck p).counters := evaluated .counters (by decide)
  have sends := evalPool_sendsOnly (g.answerAck p)
  have young : (g.answerAck p).NothingAged := by
    intro x
    rcases PortId.eq_or_other p x with rfl | rfl
    · rw [answerAck_port]
      exact (ack_settled (settled.port x)).nothingAged
    · rw [answerAck_other]
      exact (settled.port p.other).nothingAged
  refine ⟨(acks.mono (by cases p <;> decide)).trans (evaluated.mono (by decide)), ?_, ?_, sends.keeps_nothingAged young⟩
  · rw [Counted, counters]
    exact answerAck_counted g p
  · rw [(sends p).role, answerAck_port]

/-! ## The claim of a DIVERT frame (R78, R135) -/

/-- A DIVERT frame stands in the capture queue, nothing answered yet (R78, R135). -/
def Gateway.diverted (g : Gateway) (p : PortId) (r : DecisionRecord) (f : Frame) : Gateway :=
  { g with free := g.free - 1, capture := g.capture ++ [⟨rewriteFrame r f, p, .claimed, false⟩] }

theorem claimDivert_of_room {g : Gateway} (buffers : 2 ≤ g.free) (room : g.capture.length < 4) (p : PortId)
    (r : DecisionRecord) (f : Frame) :
    g.claimDivert p r f = some (((g.diverted p r f).answerAck p).evalPool.evalCapture) := by
  rw [Gateway.claimDivert, if_pos ⟨buffers, room⟩]
  rfl

theorem diverted_allBut (g : Gateway) (p : PortId) (r : DecisionRecord) (f : Frame) :
    AllBut [.free, .capture] g (g.diverted p r f) :=
  .of_same fun x => by cases x <;> simp [Part.Same, Gateway.diverted]

/-- A DIVERT frame is claimed with ACK into the capture queue (R78, R135). -/
theorem divert_outcome {g t : Gateway} (settled : g.Settled) (off : g.general.noticeEnable = false) (buffers : 2 ≤ g.free)
    (room : g.capture.length < 4) (p : PortId) (r : DecisionRecord) (f : Frame) (waits : Gateway)
    (outcome : ((g.claimDivert p r f).getD waits).settle = t) :
    AllBut [.portA, .portB, .free, .counters, .capture, .monitor] g t ∧ (t.port p).role = .answered .ack ∧
      t.free + 1 = g.free ∧ Counted (portCounterIndex p .claimed) g t ∧ t.monitor.history.capturePending = true ∧
      t.capture = g.capture ++ [⟨rewriteFrame r f, p, .claimed, false⟩] := by
  have taken := diverted_allBut g p r f
  obtain ⟨acks, counted, role, young⟩ := acked_outcome (g := g.diverted p r f) (settled_of_same rfl rfl settled) off p
  rw [claimDivert_of_room buffers room, Option.getD_some] at outcome
  generalize ((g.diverted p r f).answerAck p).evalPool = c at acks counted role young outcome
  have free : c.free = g.free - 1 := acks .free (by decide)
  have capture : c.capture = g.capture ++ [⟨rewriteFrame r f, p, .claimed, false⟩] := acks .capture (by decide)
  have general : c.general = g.general := acks .general (by decide)
  have evaluated := evalLevel_of_noticeOff (g := c) (by rw [general]; exact off) .capturePending (!c.capture.isEmpty)
  have pending : c.evalCapture.monitor.history.capturePending = true := by
    unfold Gateway.evalCapture Gateway.evalLevel
    rw [alertEval_of_noticeOff _ (by rw [Gateway.general_handLevel, general]; exact off)]
    refine (handLevel_get c.monitor c.general.edgeSelect .capturePending .capturePending _).trans ?_
    simp [capture]
  have ports := port_of_allBut evaluated (by decide) (by decide)
  have youngNow : c.evalCapture.NothingAged := fun x => by
    rw [Gateway.evalCapture, ports]
    exact young x
  obtain ⟨selects, sends⟩ := settle_of_nothingAged _ youngNow
  rw [outcome] at selects sends
  have monitor : t.monitor = c.evalCapture.monitor := selects .monitor (by decide)
  have rest : AllBut [.portA, .portB, .monitor] c t := (evaluated.mono (by decide)).trans (selects.mono (by decide))
  have freeKept : t.free = c.free := rest .free (by decide)
  have counters : t.counters = c.counters := rest .counters (by decide)
  have captureKept : t.capture = c.capture := rest .capture (by decide)
  have frame : AllBut [.portA, .portB, .free, .counters, .capture, .monitor] g t :=
    (taken.mono (by decide)).trans ((acks.mono (by decide)).trans (rest.mono (by decide)))
  refine ⟨frame, ?_, ?_, ?_, ?_, captureKept.trans capture⟩
  · rw [(sends p).role, Gateway.evalCapture, ports, role]
  · omega
  · rw [Counted, counters]
    exact counted
  · rw [monitor, pending]

/-- Settles O31, by the claim of a DIVERT frame with room. -/
theorem divertedFrameIsCaptured : Obligations.DivertedFrameIsCaptured := by
  intro s p f receives settled routes divert buffers room off r
  have kept : rewriteFrame r f = { rewriteFrame r f with hop := f.hop } := by
    simp [rewriteFrame, DecisionRecord.forwards, r, divert]
  have frame := looked_allBut s.gw p f
  have good := looked_counted s.gw p f
  have base := looked_settled settled p f
  have free := looked_free s.gw p f
  have general := looked_general s.gw p f
  have capture : (s.gw.looked p f).capture = s.gw.capture := frame .capture (by cases p <;> decide)
  have route : (s.gw.looked p f).route = s.gw.routeHit p f := rfl
  have decides : effect (completion p f) s.gw =
      (((s.gw.looked p f).claimDivert p r f).getD ((s.gw.looked p f).holdOrBusy p r)).settle := by
    rw [completion_of_routes receives routes, Gateway.decideAction, divert]
  refine exec_of_effect (c := completion p f) ⟨rfl, ?_⟩
  rw [decides]
  generalize s.gw.looked p f = h at frame good base free general capture route ⊢
  obtain ⟨t, is⟩ : ∃ t, ((h.claimDivert p r f).getD (h.holdOrBusy p r)).settle = t := ⟨_, rfl⟩
  obtain ⟨others, role, less, claimed, pending, joins⟩ :=
    divert_outcome base (by rw [general]; exact off) (by omega) (by rw [capture]; exact room) p r f _ is
  rw [is]
  have routeKept : t.route = h.route := others .route (by decide)
  rw [free] at less
  rw [capture, kept] at joins
  exact ⟨(frame.mono (by cases p <;> decide)).trans (others.mono (by decide)), role, less, routeKept.trans route,
    good.snoc claimed, pending, joins⟩

/-! ## The claim of a management request (R68, R69, R118, R119) -/

/-- The entry of a management request that has just been claimed. -/
def claimedEntry (p : PortId) (r : DecisionRecord) (f : Frame) : AgentEntry :=
  { buf := ⟨f, p, .request, false⟩, own := r.own.getD .one, access := r.access, state := .waiting, offerDue := false }

/-- A management request stands in the agent queue, nothing answered yet (R118). -/
def Gateway.requested (g : Gateway) (p : PortId) (r : DecisionRecord) (f : Frame) : Gateway :=
  { g with free := g.free - 1, agentQueue := g.agentQueue ++ [claimedEntry p r f] }

theorem claimManagement_of_room {g : Gateway} (room : g.agentQueue.length < 2) (buffer : 1 ≤ g.free) (p : PortId)
    (r : DecisionRecord) (f : Frame) :
    g.claimManagement p r f = some (((g.requested p r f).answerAck p).evalPool.beginExecution) := by
  rw [Gateway.claimManagement, if_pos ⟨room, buffer⟩]
  rfl

theorem requested_allBut (g : Gateway) (p : PortId) (r : DecisionRecord) (f : Frame) :
    AllBut [.free, .agentQueue] g (g.requested p r f) :=
  .of_same fun x => by cases x <;> simp [Part.Same, Gateway.requested]

theorem beginExecution_of_occupied {g : Gateway} (occupied : g.exec ≠ none ∨ g.restart ≠ .none) : g.beginExecution = g := by
  rw [Gateway.beginExecution, if_neg]
  rcases occupied with busy | due
  · simp [Gateway.agentFree, busy]
  · simp [Gateway.agentFree, due]

/-- An execution begins for the one WAITING entry, the last of the queue (R119). -/
theorem beginExecution_of_last {g : Gateway} {l : List AgentEntry} {e : AgentEntry} (queue : g.agentQueue = l ++ [e])
    (free : g.exec = none) (still : g.restart = .none) (others : l.find? AgentEntry.isWaiting = none)
    (waits : e.isWaiting = true) :
    g.beginExecution =
      { g with
        agentQueue := l ++ [{ e with state := .executing }]
        exec := some ⟨false, 0, 0, [], [], [], 0⟩ }.countDevice .agentRequests := by
  have found : g.agentQueue.find? AgentEntry.isWaiting = some e := by
    rw [queue, List.find?_append, others]
    simp [waits]
  rw [Gateway.beginExecution, if_pos (by simp [Gateway.agentFree, free, still]), found, queue,
    updateFirst_append_of_none others waits]

/-- Beginning an execution leaves the buffers of the agent queue (R119). -/
theorem beginExecution_bufs (g : Gateway) : g.beginExecution.agentQueue.map AgentEntry.buf = g.agentQueue.map AgentEntry.buf := by
  unfold Gateway.beginExecution
  repeat' split
  · rfl
  · exact map_updateFirst (v := AgentEntry.buf) (f := fun e => { e with state := .executing }) (fun _ => rfl) _ _
  · rfl

/-- What a management request that is claimed leaves (R68, R69, R118, R119). -/
structure RequestClaim (g : Gateway) (p : PortId) (r : DecisionRecord) (f : Frame) (t : Gateway) : Prop where
  frame : AllBut [.portA, .portB, .free, .counters, .agentQueue, .exec, .monitor] g t
  role : (t.port p).role = .answered .ack
  free : t.free + 1 = g.free
  bufs : t.agentQueue.map AgentEntry.buf = g.agentQueue.map AgentEntry.buf ++ [⟨f, p, .request, false⟩]
  waits : g.exec ≠ none ∨ g.restart ≠ .none →
    t.exec = g.exec ∧ t.agentQueue = g.agentQueue ++ [claimedEntry p r f] ∧ Counted (portCounterIndex p .claimed) g t
  begins : g.exec = none → g.restart = .none → g.agentQueue.find? AgentEntry.isWaiting = none →
    t.exec = some ⟨false, 0, 0, [], [], [], 0⟩ ∧
      t.agentQueue = g.agentQueue ++ [{ claimedEntry p r f with state := .executing }] ∧
      CountedAll [portCounterIndex p .claimed, deviceCounterIndex .agentRequests] g t

theorem management_outcome {g t : Gateway} (settled : g.Settled) (off : g.general.noticeEnable = false)
    (room : g.agentQueue.length < 2) (buffer : 1 ≤ g.free) (p : PortId) (r : DecisionRecord) (f : Frame) (waits : Gateway)
    (outcome : ((g.claimManagement p r f).getD waits).settle = t) : RequestClaim g p r f t := by
  have taken := requested_allBut g p r f
  obtain ⟨acks, counted, role, young⟩ := acked_outcome (g := g.requested p r f) (settled_of_same rfl rfl settled) off p
  rw [claimManagement_of_room room buffer, Option.getD_some] at outcome
  generalize ((g.requested p r f).answerAck p).evalPool = c at acks counted role young outcome
  have free : c.free = g.free - 1 := acks .free (by decide)
  have queue : c.agentQueue = g.agentQueue ++ [claimedEntry p r f] := acks .agentQueue (by decide)
  have exec : c.exec = g.exec := acks .exec (by decide)
  have restart : c.restart = g.restart := acks .restart (by decide)
  have begins := beginExecution_allBut c
  have ports := port_of_allBut begins (by decide) (by decide)
  obtain ⟨selects, sends⟩ := settle_of_nothingAged c.beginExecution fun x => by
    rw [ports]
    exact young x
  rw [outcome] at selects sends
  have freeKept : t.free = c.beginExecution.free := selects .free (by decide)
  have freeBegun : c.beginExecution.free = c.free := begins .free (by decide)
  have counters : t.counters = c.beginExecution.counters := selects .counters (by decide)
  have queueKept : t.agentQueue = c.beginExecution.agentQueue := selects .agentQueue (by decide)
  have execKept : t.exec = c.beginExecution.exec := selects .exec (by decide)
  refine ⟨(taken.mono (by decide)).trans ((acks.mono (by decide)).trans ((begins.mono (by decide)).trans
    (selects.mono (by decide)))), ?_, by omega, ?_, fun occupied => ?_, fun idle still others => ?_⟩
  · rw [(sends p).role, ports, role]
  · rw [queueKept, beginExecution_bufs, queue, List.map_append]
    rfl
  · rw [beginExecution_of_occupied (by rw [exec, restart]; exact occupied)] at counters queueKept execKept
    refine ⟨execKept.trans exec, queueKept.trans queue, ?_⟩
    rw [Counted, counters]
    exact counted
  · rw [beginExecution_of_last queue (exec.trans idle) (restart.trans still) others rfl] at counters queueKept execKept
    refine ⟨execKept, queueKept, ?_⟩
    have begun : Counted (deviceCounterIndex .agentRequests) c t := counters
    exact (show CountedAll [portCounterIndex p .claimed] g c from counted).snoc begun

theorem managementRecord_entry (g : Gateway) (p : PortId) (f : Frame) (own : OwnAddress) :
    claimedEntry p (managementRecord g p f own) f =
      ⟨⟨f, p, .request, false⟩, own, (g.port p).words.access, .waiting, false⟩ := rfl

/-- Settles O30, by the claim of a management request with room and the execution that it can begin. -/
theorem managementRequestIsQueued : Obligations.ManagementRequestIsQueued := by
  intro s p f own receives settled kind takes room buffer off
  have frame := received_allBut s.gw p f
  have good := received_counted s.gw p f
  have base := received_settled settled p f
  have free : (s.gw.received p f).free = s.gw.free := frame .free (by cases p <;> decide)
  have general : (s.gw.received p f).general = s.gw.general := frame .general (by cases p <;> decide)
  have queue : (s.gw.received p f).agentQueue = s.gw.agentQueue := frame .agentQueue (by cases p <;> decide)
  have exec : (s.gw.received p f).exec = s.gw.exec := frame .exec (by cases p <;> decide)
  have restart : (s.gw.received p f).restart = s.gw.restart := frame .restart (by cases p <;> decide)
  have decides := completion_of_takes receives kind takes
  refine exec_of_effect (c := completion p f) ⟨rfl, ?_⟩
  rw [decides]
  have entry := managementRecord_entry s.gw p f own
  generalize managementRecord s.gw p f own = r at entry ⊢
  generalize s.gw.received p f = h at frame good base free general queue exec restart ⊢
  obtain ⟨t, is⟩ : ∃ t, ((h.claimManagement p r f).getD (h.holdOrBusy p r)).settle = t := ⟨_, rfl⟩
  obtain ⟨others, role, less, -, waits, begins⟩ :=
    management_outcome base (by rw [general]; exact off) (by rw [queue]; exact room) (by omega) p r f _ is
  rw [is]
  rw [exec, restart, queue, entry] at waits begins
  refine ⟨(frame.mono (by cases p <;> decide)).trans (others.mono (by decide)), role, less.trans free, fun occupied => ?_,
    fun idle still none => ?_⟩
  · obtain ⟨execKept, joins, claimed⟩ := waits occupied
    exact ⟨execKept, joins, good.all.snoc claimed⟩
  · obtain ⟨begun, joins, claimed⟩ := begins idle still none
    exact ⟨begun, joins, good.all.append claimed⟩

/-! ## Re-tests of holds that wait for room (R69, R78, R86, R87) -/

/-- A re-test that does not find what the hold waits for claims nothing (R87). -/
theorem retestHold_of_noRoom {g : Gateway} {p : PortId} {r : DecisionRecord}
    (noRoom : (r.path = .management ∧ (2 ≤ g.agentQueue.length ∨ g.free = 0)) ∨
      (r.path ≠ .management ∧ r.action = some .divert ∧ (g.free < 2 ∨ 4 ≤ g.capture.length)) ∨
      (r.path ≠ .management ∧ r.action = some .forward ∧
        (g.free < 2 ∨ 24 ≤ (g.port p.other).egressCount ∨ (g.port p.other).state ≠ .active))) (f : Frame) :
    g.retestHold p r f = g := by
  unfold Gateway.retestHold
  rcases noRoom with ⟨path, full⟩ | ⟨path, divert, full⟩ | ⟨path, forward, full⟩
  · rw [if_pos path, claimManagement_of_noRoom full, Option.getD_none]
  · rw [if_neg path, if_pos divert, claimDivert_of_noRoom full, Option.getD_none]
  · rw [if_neg path, if_neg (by simp [forward]), forwardVerdict_of_noCapacity full]
    rfl

/-- Settles O32, by what the hold waits for. -/
theorem retestTestsWhatWasWaitedFor : Obligations.RetestTestsWhatWasWaitedFor := by
  intro s p timer retest r st holding record staging settled
  have taken := retested_allBut s.gw p
  have base := retested_settled settled p
  have port := retested_port holding
  have otherPort := retested_other s.gw p
  have free : (s.gw.retested p).free = s.gw.free := taken .free (by cases p <;> decide)
  have general : (s.gw.retested p).general = s.gw.general := taken .general (by cases p <;> decide)
  have queue : (s.gw.retested p).agentQueue = s.gw.agentQueue := taken .agentQueue (by cases p <;> decide)
  have capture : (s.gw.retested p).capture = s.gw.capture := taken .capture (by cases p <;> decide)
  have counters : (s.gw.retested p).counters = s.gw.counters := taken .counters (by cases p <;> decide)
  refine exec_of_effect (c := .holdRetest p) ⟨rfl, ?_⟩
  cases retest with
  | false =>
    have nothing : effect (.holdRetest p) s.gw = s.gw := holdRetest_of_unprompted holding
    rw [nothing]
    refine ⟨fun _ => ⟨.refl _ _, ?_⟩, nofun, nofun⟩
    rw [← holding]
  | true =>
    have retests : effect (.holdRetest p) s.gw = ((s.gw.retested p).retestHold p r st.frame).settle :=
      holdRetest_of_prompted holding record staging
    rw [retests]
    generalize s.gw.retested p = h at taken base port otherPort free general queue capture counters ⊢
    refine ⟨fun noRoom => ?_, fun _ path room buffer off => ?_, fun _ path divert buffers room off => ?_⟩
    · rcases noRoom with unprompted | noRoom
      · cases unprompted
      · rw [retestHold_of_noRoom (by rw [free, queue, capture, otherPort]; exact noRoom), settle_of_settled _ base]
        exact ⟨taken, port⟩
    · obtain ⟨t, is⟩ : ∃ t, ((h.claimManagement p r st.frame).getD h).settle = t := ⟨_, rfl⟩
      obtain ⟨others, role, less, bufs, -, -⟩ :=
        management_outcome base (by rw [general]; exact off) (by rw [queue]; exact room) (by omega) p r st.frame _ is
      rw [Gateway.retestHold, if_pos path, is]
      rw [queue] at bufs
      have length := congrArg List.length bufs
      simp only [List.length_map, List.length_append, List.length_singleton] at length
      refine ⟨(taken.mono (by cases p <;> decide)).trans (others.mono (by decide)), role, less.trans free, length, ?_⟩
      rw [bufs, List.getLast?_concat]
    · obtain ⟨t, is⟩ : ∃ t, ((h.claimDivert p r st.frame).getD h).settle = t := ⟨_, rfl⟩
      obtain ⟨others, role, less, claimed, -, joins⟩ :=
        divert_outcome base (by rw [general]; exact off) (by omega) (by rw [capture]; exact room) p r st.frame _ is
      rw [Gateway.retestHold, if_neg path, if_pos divert, is]
      rw [capture] at joins
      refine ⟨(taken.mono (by cases p <;> decide)).trans (others.mono (by decide)), role, less.trans free, ?_, joins⟩
      rw [Counted, ← counters]
      exact claimed

end Sys2Proof.Machine
end

section
/-! SUPPORT. What the return of a buffer prompts and reports, and the ends of transmissions (R13, R14, R32 to R34, R49, R53,
R60, R61, R87, R126). -/

open Sys2Proof

namespace Sys2Proof.Machine

/-! ## A buffer returned with the fall of its egress count (R49, R53) -/

/-- A buffer returns, the egress count of `p` has fallen, and the end is reported (R49, R53, R61). -/
def Gateway.returned (g : Gateway) (p : PortId) (b : PoolBuffer) (kind : EndKind) : Gateway :=
  (((g.giveBack 1).promptEgress p).evalPool).reportEnd b kind

/-- The agent's entries that wait for port `p` are marked for their re-offer (R126). -/
def offersDue (p : PortId) (l : List AgentEntry) : List AgentEntry :=
  l.map fun e => if e.waitsOn p then { e with offerDue := true } else e

/-- What the return of a buffer leaves where nothing is asked for: every hold prompted, every waiting reply of `p` due. -/
structure Returned (g : Gateway) (p : PortId) (t : Gateway) : Prop where
  frame : AllBut [.portA, .portB, .free, .agentQueue, .restart, .monitor] g t
  port : ∀ x, t.port x = Port.promptIf (fun _ => true) (g.port x)
  free : t.free = g.free + 1
  offers : t.agentQueue = offersDue p g.agentQueue
  flags0 : t.monitor.flags0 = g.monitor.flags0
  keeps : ∀ src, Latched src g → Latched src t

/-- The prompts of a returned buffer on the ports: a further prompt finds every hold prompted. -/
theorem returned_ports (g : Gateway) (n : Nat) (p x : PortId) :
    ((g.giveBack n).promptEgress p).port x = Port.promptIf (fun _ => true) (g.port x) := by
  have both : (g.giveBack n).port x = Port.promptIf (fun _ => true) (g.port x) := by
    rw [Gateway.giveBack, Gateway.promptReturn, modBoth_port]
    cases x <;> rfl
  have egress : ((g.giveBack n).promptEgress p).port x = ((g.giveBack n).modPort p.other (Port.promptIf DecisionRecord.forwards)).port x := by
    cases x <;> rfl
  rw [egress]
  rcases PortId.eq_or_other p x with rfl | rfl
  · rw [Gateway.port_other_modPort, both]
  · rw [Gateway.port_modPort_self, both, promptIf_promptIf]
    simp

theorem handLevel_poolLow_flags0 (m : Monitor) (edges : Word) (v : Bool) :
    (m.handLevel edges .poolLow v).flags0 = m.flags0 := by
  unfold Monitor.handLevel
  repeat' split
  · rfl
  · simp [Monitor.setFlag, Level.source, Source.mask0]
  · rfl

theorem reportEnd_frame {g : Gateway} (off : g.general.noticeEnable = false) (b : PoolBuffer) (kind : EndKind) :
    AllBut [.restart, .monitor] g (g.reportEnd b kind) ∧ (g.reportEnd b kind).monitor.flags0 = g.monitor.flags0 := by
  rcases reportEnd_eq_or g b kind with same | due | failed
  · rw [same]
    exact ⟨.refl _ g, rfl⟩
  · rw [due]
    exact ⟨.of_same fun x => by cases x <;> simp [Part.Same], rfl⟩
  · rw [failed]
    refine ⟨(latch_of_noticeOff_allBut off _).mono (by decide), ?_⟩
    rw [latch_of_noticeOff g _ off]
    simp [Monitor.setFlag, Source.mask0]

theorem returned_outcome {g : Gateway} (off : g.general.noticeEnable = false) (quiet : g.general.poolPause = false)
    (p : PortId) (b : PoolBuffer) (kind : EndKind) : Returned g p (g.returned p b kind) := by
  have gives := giveBack_allBut g 1
  have prompts := promptEgress_allBut (g.giveBack 1) p
  have before : AllBut [.portA, .portB, .free, .agentQueue] g ((g.giveBack 1).promptEgress p) :=
    (gives.mono (by decide)).trans (prompts.mono (by cases p <;> decide))
  have general : ((g.giveBack 1).promptEgress p).general = g.general := before .general (by decide)
  have monitor : ((g.giveBack 1).promptEgress p).monitor = g.monitor := before .monitor (by decide)
  have free : ((g.giveBack 1).promptEgress p).free = (g.giveBack 1).free := prompts .free (by cases p <;> decide)
  have queue : ((g.giveBack 1).promptEgress p).agentQueue = offersDue p (g.giveBack 1).agentQueue := by
    simp [Gateway.promptEgress, offersDue]
  have queueKept : (g.giveBack 1).agentQueue = g.agentQueue := gives .agentQueue (by decide)
  have ports := returned_ports g 1 p
  have pool := evalPool_of_off_allBut (g := (g.giveBack 1).promptEgress p) (by rw [general]; exact off)
    (by rw [general]; exact quiet)
  have flags : ((g.giveBack 1).promptEgress p).evalPool.monitor.flags0 = g.monitor.flags0 := by
    rw [evalPool_of_off _ (by rw [general]; exact off) (by rw [general]; exact quiet), ← monitor]
    exact handLevel_poolLow_flags0 _ _ _
  have keeps : ∀ src, Latched src g → Latched src (g.returned p b kind) := fun src latched =>
    (latched_steadyAside src).toSteady.reportEnd b kind ((latched_steadyAside src).toSteady.returned 1 p latched)
  unfold Gateway.returned at keeps ⊢
  generalize (g.giveBack 1).promptEgress p = h at before general free queue ports pool flags keeps ⊢
  have generals : h.evalPool.general = h.general := pool .general (by decide)
  obtain ⟨reports, flagsKept⟩ := reportEnd_frame (g := h.evalPool) (by rw [generals, general]; exact off) b kind
  have rest : AllBut [.restart, .monitor] h (h.evalPool.reportEnd b kind) := (pool.mono (by decide)).trans reports
  have freeKept : (h.evalPool.reportEnd b kind).free = h.free := rest .free (by decide)
  have queueNow : (h.evalPool.reportEnd b kind).agentQueue = h.agentQueue := rest .agentQueue (by decide)
  exact ⟨(before.mono (by decide)).trans (rest.mono (by decide)),
    fun x => (port_of_allBut rest (by decide) (by decide) x).trans (ports x), by rw [freeKept, free, giveBack_free],
    by rw [queueNow, queue, queueKept], flagsKept.trans flags, keeps⟩

/-! ## The end of a transmission (R34) -/

/-- A port whose transmission has ended, in this view and driving this pattern (R14, R31, R34). -/
def Port.sent (q : Port) (view : LineView) (abort : List Bool) : Port :=
  ({ q with view := view, abort := abort } : Port).emptySlot

/-- What the end of a transmission of `p` leaves where the port has nothing else to send and nothing is asked for. -/
structure Ended (i : Nat) (g : Gateway) (p : PortId) (view : LineView) (abort : List Bool) (t : Gateway) : Prop where
  frame : AllBut [.portA, .portB, .free, .counters, .agentQueue, .restart, .monitor] g t
  counted : Counted i g t
  port : ∃ role, t.port p = { (g.port p).sent view abort with role := role }
  settled : t.Settled
  free : t.free = g.free + (g.port p).slot.poolFrames
  offers : t.agentQueue = if (g.port p).slot.poolFrames = 1 then offersDue p g.agentQueue else g.agentQueue
  prompts : (g.port p).slot.poolFrames = 1 → ∀ x timer retest r, (g.port x).role = .holding timer retest →
    (g.port x).record = some r → (t.port x).role = .holding timer true

/-- Nothing else waits to be sent on the port. -/
def Port.Alone (q : Port) : Prop :=
  q.urgent = [] ∧ q.normal = [] ∧ q.pendingPause = false

theorem sent_settled {q : Port} (alone : q.Alone) (view : LineView) (abort : List Bool) : (q.sent view abort).Settled :=
  fun _ _ => ⟨alone.2.2, fun _ => ⟨alone.1, alone.2.1⟩⟩

theorem endTransmission_ended {i : Nat} {g h : Gateway} {p : PortId} {view : LineView} {abort : List Bool}
    (settled : g.Settled) (alone : (g.port p).Alone) (off : g.general.noticeEnable = false)
    (quiet : g.general.poolPause = false) (frame : AllBut [portPart p, .counters] g h) (counted : Counted i g h)
    (slot : (h.port p).slot = (g.port p).slot) (port : (h.port p).emptySlot = (g.port p).sent view abort) (kind : EndKind) :
    Ended i g p view abort (h.endTransmission p kind) ∧
      (h.endTransmission p kind).monitor.flags0 = g.monitor.flags0 := by
  have emptied := modPort_allBut h p Port.emptySlot
  have base : AllBut [portPart p, .counters] g (h.modPort p Port.emptySlot) := frame.trans (emptied.mono (by simp))
  have own : (h.modPort p Port.emptySlot).port p = (g.port p).sent view abort := by
    rw [Gateway.port_modPort_self, port]
  have other : (h.modPort p Port.emptySlot).port p.other = g.port p.other := other_of_frame base (by decide) (by decide)
  have countersKept : (h.modPort p Port.emptySlot).counters = h.counters := emptied .counters (by cases p <;> decide)
  have settledNow : (h.modPort p Port.emptySlot).Settled := by
    have mine : ((h.modPort p Port.emptySlot).port p).Settled := by
      rw [own]
      exact sent_settled alone view abort
    have theirs : ((h.modPort p Port.emptySlot).port p.other).Settled := by
      rw [other]
      exact settled.port p.other
    cases p
    · exact ⟨mine, theirs⟩
    · exact ⟨theirs, mine⟩
  rw [endTransmission_eq, slot]
  generalize h.modPort p Port.emptySlot = e at base own other countersKept settledNow ⊢
  have countedNow : Counted i g e := by rw [Counted, countersKept]; exact counted
  have free : e.free = g.free := base .free (by cases p <;> decide)
  have queue : e.agentQueue = g.agentQueue := base .agentQueue (by cases p <;> decide)
  have monitor : e.monitor = g.monitor := base .monitor (by cases p <;> decide)
  have general : e.general = g.general := base .general (by cases p <;> decide)
  have whole : AllBut [.portA, .portB, .free, .counters, .agentQueue, .restart, .monitor] g e :=
    base.mono (by cases p <;> decide)
  cases was : (g.port p).slot with
  | empty =>
    exact ⟨⟨whole, countedNow, ⟨_, own⟩, settledNow, by simp [Gateway.afterEnd, TxSlot.poolFrames, was, free],
      by simp [Gateway.afterEnd, TxSlot.poolFrames, was, queue], by simp [TxSlot.poolFrames, was]⟩, by
        simp [Gateway.afterEnd, monitor]⟩
  | pause f =>
    exact ⟨⟨whole, countedNow, ⟨_, own⟩, settledNow, by simp [Gateway.afterEnd, TxSlot.poolFrames, was, free],
      by simp [Gateway.afterEnd, TxSlot.poolFrames, was, queue], by simp [TxSlot.poolFrames, was]⟩, by
        simp [Gateway.afterEnd, monitor]⟩
  | pool b =>
    have gone := returned_outcome (g := e) (by rw [general]; exact off) (by rw [general]; exact quiet) p b kind
    have is : e.afterEnd p (.pool b) kind = e.returned p b kind := rfl
    rw [is]
    obtain ⟨rest, ports, freed, offers, flags0, -⟩ := gone
    generalize e.returned p b kind = t at rest ports freed offers flags0 ⊢
    have counters : t.counters = e.counters := rest .counters (by decide)
    refine ⟨⟨whole.trans (rest.mono (by decide)), ?_, ?_, ?_, ?_, ?_, fun _ x timer retest r role record => ?_⟩, ?_⟩
    · rw [Counted, counters]
      exact countedNow
    · rw [ports, own, promptIf_eq]
      exact ⟨_, rfl⟩
    · have each : ∀ x, (t.port x).Settled := fun x => by
        rw [ports]
        exact promptIf_settled (settledNow.port x)
      exact ⟨each .a, each .b⟩
    · rw [freed, free, was]
      rfl
    · rw [offers, queue, was]
      rfl
    · have same : (e.port x).role = .holding timer retest ∧ (e.port x).record = some r := by
        rcases PortId.eq_or_other p x with rfl | rfl
        · rw [own]
          exact ⟨role, record⟩
        · rw [other]
          exact ⟨role, record⟩
      rw [ports, promptIf_of_holding same.1 same.2]
      simp
    · rw [flags0, monitor]

theorem Ended.of_monitor {i : Nat} {g t u : Gateway} {p : PortId} {view : LineView} {abort : List Bool}
    (h : Ended i g p view abort t) (frame : AllBut [.monitor] t u) : Ended i g p view abort u := by
  have ports := port_of_allBut frame (by decide) (by decide)
  have counters : u.counters = t.counters := frame .counters (by decide)
  have free : u.free = t.free := frame .free (by decide)
  have queue : u.agentQueue = t.agentQueue := frame .agentQueue (by decide)
  refine ⟨h.frame.trans (frame.mono (by decide)), ?_, ?_, settled_of_same (ports .a) (ports .b) h.settled, free.trans h.free,
    queue.trans h.offers, fun one x timer retest r role record => ?_⟩
  · rw [Counted, counters]
    exact h.counted
  · rw [ports]
    exact h.port
  · rw [ports]
    exact h.prompts one x timer retest r role record

/-! ## Failed attempts (R33) -/

/-- A port whose attempt has failed within its retry limit: the frame waits again (R33). -/
def Port.waitsAgain (q : Port) (view : LineView) (abort : List Bool) : Port :=
  { q with view := view, abort := abort, attempts := q.attempts + 1, tx := .tWaitIdle, sending := none, tolerance := none }

/-- A failed attempt of a port whose view and pattern have been set (R31 to R33). -/
def Gateway.attemptFailed (g : Gateway) (p : PortId) (view : LineView) (abort : List Bool) : Gateway :=
  ((g.modPort p fun q => { q with view := view, abort := abort }).failAttempt p).settle

theorem attemptFailed_of_within {g : Gateway} {p : PortId} (settled : g.Settled) {view : LineView} {abort : List Bool}
    (within : (g.port p).attempts + 1 ≤ (g.port p).words.retryLimit.toNat) :
    g.attemptFailed p view abort = g.setPort p ((g.port p).waitsAgain view abort) := by
  have failed : (g.modPort p fun q => { q with view := view, abort := abort }).failAttempt p =
      g.setPort p ((g.port p).waitsAgain view abort) := by
    unfold Gateway.failAttempt
    dsimp only
    rw [if_pos]
    · cases p <;> rfl
    · cases p <;> exact within
  have again : (g.setPort p ((g.port p).waitsAgain view abort)).Settled :=
    setPort_settled settled (Port.settled_congr (q := g.port p) rfl rfl rfl rfl id id (settled.port p))
  rw [Gateway.attemptFailed, failed, settle_of_settled _ again]

theorem attemptFailed_of_beyond {g : Gateway} {p : PortId} (settled : g.Settled) (alone : (g.port p).Alone)
    (off : g.general.noticeEnable = false) (quiet : g.general.poolPause = false) {view : LineView} {abort : List Bool}
    (beyond : (g.port p).words.retryLimit.toNat < (g.port p).attempts + 1) :
    Ended (portCounterIndex p .txFailed) g p view abort (g.attemptFailed p view abort) ∧
      Latched (.retry p) (g.attemptFailed p view abort) := by
  have taken : AllBut [portPart p] g (g.setPort p ((g.port p).waitsAgain view abort)) := setPort_allBut g p _
  have failed : (g.modPort p fun q => { q with view := view, abort := abort }).failAttempt p =
      (((g.setPort p ((g.port p).waitsAgain view abort)).count p .txFailed).endTransmission p .failed).latch (.retry p) := by
    unfold Gateway.failAttempt
    dsimp only
    rw [if_neg]
    · cases p <;> rfl
    · cases p <;> exact Nat.not_le.mpr beyond
  have counters : (g.setPort p ((g.port p).waitsAgain view abort)).counters = g.counters :=
    taken .counters (by cases p <;> decide)
  have counted : Counted (portCounterIndex p .txFailed) g
      ((g.setPort p ((g.port p).waitsAgain view abort)).count p .txFailed) := by
    rw [Counted, ← counters]
    rfl
  obtain ⟨ended, -⟩ := endTransmission_ended (h := (g.setPort p ((g.port p).waitsAgain view abort)).count p .txFailed)
    (view := view) (abort := abort) settled alone off quiet
    ((taken.mono (by simp)).trans ((bump_allBut _ _ _).mono (by simp))) counted
    (by rw [Gateway.port_count, Gateway.port_setPort_self]; rfl) (by rw [Gateway.port_count, Gateway.port_setPort_self]; rfl)
    .failed
  rw [Gateway.attemptFailed, failed]
  generalize ((g.setPort p ((g.port p).waitsAgain view abort)).count p .txFailed).endTransmission p .failed = t at ended ⊢
  have general : t.general = g.general := ended.frame .general (by decide)
  have done := ended.of_monitor (latch_of_noticeOff_allBut (g := t) (by rw [general]; exact off) (.retry p))
  rw [settle_of_settled _ done.settled]
  exact ⟨done, latch_latched _ _⟩

end Sys2Proof.Machine
end

section
/-! SUPPORT. The obligations on sending (R6, R10, R11, R13 to R15, R29 to R35, R97, R98). -/

open Sys2Proof

namespace Sys2Proof.Machine

/-! ## The points of a transmission (R29, R97, R98) -/

theorem effect_transmitStart (p : PortId) (point : TxPoint) (g : Gateway) :
    effect (.transmitStart p point) g = g.modPort p (·.advance point) := rfl

theorem backedOff_iff (q : Port) : q.backedOff = true ↔ ∃ n, q.view = .idle n ∧ 32 * q.attempts ≤ n := by
  cases view : q.view <;> simp [Port.backedOff, view, Nat.mul_comm]

theorem pauseAllows_iff (q : Port) : q.pauseAllows = true ↔ q.pause = .running ∨ ∃ f, q.slot = .pause f := by
  cases slot : q.slot <;> cases pause : q.pause <;> simp [Port.pauseAllows, slot, pause]

/-- What R29 asks for a start bit, condition by condition. -/
theorem mayStart_iff (q : Port) :
    q.mayStart = true ↔ q.tx = .tWaitIdle ∧ q.state = .active ∧ (∃ n, q.view = .idle n ∧ 32 * q.attempts ≤ n) ∧
      (q.pause = .running ∨ ∃ f, q.slot = .pause f) := by
  simp only [Port.mayStart, Bool.and_eq_true, decide_eq_true_eq, backedOff_iff, pauseAllows_iff, and_assoc]

theorem onLine_iff (tx : TxState) : tx.onLine = true ↔ tx = .tArb ∨ tx = .tSend ∨ tx = .tSlot := by
  cases tx <;> simp [TxState.onLine]

/-- Settles O36, by the four points one by one. -/
theorem transmissionReachesItsPoints : Obligations.TransmissionReachesItsPoints := by
  intro s p q may
  have frame : ∀ point, AllBut [portPart p] s.gw (s.gw.modPort p (·.advance point)) := fun point => modPort_allBut s.gw p _
  have port : ∀ point, (s.gw.modPort p (·.advance point)).port p = q.advance point := fun point =>
    Gateway.port_modPort_self s.gw p _
  have still : ∀ point, q.advance point = q → s.gw.modPort p (·.advance point) = s.gw := fun point same =>
    modPort_of_same same
  refine ⟨exec_of_effect (c := .transmitStart p .startBit) ⟨rfl, ?_⟩, exec_of_effect (c := .transmitStart p .fieldEnd) ⟨rfl, ?_⟩,
    exec_of_effect (c := .transmitStart p .checkEnd) ⟨rfl, ?_⟩, exec_of_effect (c := .transmitStart p .claimBit) ⟨rfl, ?_⟩⟩
  · rw [effect_transmitStart]
    refine ⟨frame .startBit, fun held => still .startBit (if_neg (mt (mayStart_iff q).mp held)), fun starts => ?_⟩
    have driven : q.advance .startBit =
        { q with tx := .tArb, view := .inFrame, sending := q.sentFrame.map fun f => Attempt.of f.bytes, tolerance := none } :=
      if_pos ((mayStart_iff q).mpr starts)
    rw [port, driven]
    refine ⟨rfl, fun b slot => ?_, fun f slot => ?_⟩
    · simp only [Port.sentFrame, slot]
      rfl
    · simp only [Port.sentFrame, slot]
      rfl
  · rw [effect_transmitStart, port]
    refine ⟨frame .fieldEnd, ?_⟩
    by_cases arb : q.tx = .tArb
    · rw [Port.advance, if_pos arb, if_pos arb]
    · rw [Port.advance, if_neg arb, if_neg arb]
  · rw [effect_transmitStart, port]
    exact ⟨frame .checkEnd, fun sends => if_pos sends, fun off => still .checkEnd (if_neg off)⟩
  · rw [effect_transmitStart, port]
    refine ⟨frame .claimBit, fun sends => if_pos ((onLine_iff q.tx).mpr sends), fun off => still .claimBit (if_neg ?_)⟩
    rcases off with idle | waits
    · simp [idle, TxState.onLine]
    · simp [waits, TxState.onLine]

/-! ## Transmissions broken off (R10, R11, R15, R30, R31, R33, R34) -/

theorem collision_of_sending {g : Gateway} {p : PortId} (sending : (g.port p).tx = .tArb ∨ (g.port p).tx = .tSend) :
    effect (.collision p) g = g.attemptFailed p (.resync 0) abortPattern := by
  show g.collision p = _
  rw [Gateway.collision, if_pos sending]
  rfl

theorem holdBeyondTolerance_of_onLine {g : Gateway} {p : PortId} (onLine : (g.port p).tx.onLine = true) :
    effect (.holdBeyondTolerance p) g = g.attemptFailed p (.resync 0) (g.port p).abort := by
  show g.holdBeyondTolerance p = _
  rw [Gateway.holdBeyondTolerance, if_pos onLine, Gateway.attemptFailed, Gateway.modPort, Gateway.modPort]

theorem failAttempt_serves (g : Gateway) (p : PortId) : ((g.failAttempt p).port p).abort = (g.port p).abort := by
  unfold Gateway.failAttempt
  dsimp only
  split
  · rw [Gateway.port_modPort_self]
  · rw [(latch_serves _ _ p).abort, (endTransmission_serves _ _ _ p).abort, Gateway.port_count, Gateway.port_modPort_self]

theorem attemptFailed_abort (g : Gateway) (p : PortId) (view : LineView) (abort : List Bool) :
    ((g.attemptFailed p view abort).port p).abort = abort := by
  rw [Gateway.attemptFailed, (settle_serves _ p).abort, failAttempt_serves, Gateway.port_modPort_self]

/-- Settles O37: lost arbitration is no attempt; a collision and a hold beyond tolerance are failed attempts. -/
theorem brokenTransmissions : Obligations.BrokenTransmissions := by
  intro s p settled q seven
  have unread : ∀ read : List Bool, destuff (read ++ seven) = none := fun read => destuff_six read [false] false
  refine ⟨unread, ?_, fun c breaks => ?_⟩
  · refine exec_of_effect (c := .arbLost p) ⟨rfl, ?_⟩
    by_cases arb : q.tx = .tArb
    · have lost : effect (.arbLost p) s.gw =
          (s.gw.modPort p fun q => { q with tx := .tWaitIdle, rx := .rFrame, sending := none }).count p .arbLost := if_pos arb
      have taken := modPort_allBut s.gw p fun q => { q with tx := .tWaitIdle, rx := .rFrame, sending := none }
      have counters : (s.gw.modPort p fun q => { q with tx := .tWaitIdle, rx := .rFrame, sending := none }).counters =
        s.gw.counters := taken .counters (by cases p <;> decide)
      have port : ((s.gw.modPort p fun q => { q with tx := .tWaitIdle, rx := .rFrame, sending := none }).count p .arbLost).port p =
          { q with tx := .tWaitIdle, rx := .rFrame, sending := none } := by
        rw [Gateway.port_count, Gateway.port_modPort_self]
      have frame : AllBut [portPart p, .counters] s.gw
          ((s.gw.modPort p fun q => { q with tx := .tWaitIdle, rx := .rFrame, sending := none }).count p .arbLost) :=
        (taken.mono (by simp)).trans ((bump_allBut _ _ _).mono (by simp))
      have counted : Counted (portCounterIndex p .arbLost) s.gw
          ((s.gw.modPort p fun q => { q with tx := .tWaitIdle, rx := .rFrame, sending := none }).count p .arbLost) := by
        rw [Counted, ← counters]
        rfl
      rw [lost]
      exact ⟨frame, fun _ => ⟨counted, port⟩, fun other => absurd arb other⟩
    · have kept : effect (.arbLost p) s.gw = s.gw := if_neg arb
      rw [kept]
      exact ⟨.refl _ _, fun other => absurd other arb, fun _ => rfl⟩
  · have fails : effect c s.gw = s.gw.attemptFailed p (.resync 0) (if c = .collision p then seven else q.abort) := by
      rcases breaks with ⟨rfl, sending⟩ | ⟨rfl, sending⟩
      · rw [if_pos rfl]
        exact collision_of_sending sending
      · rw [if_neg nofun]
        exact holdBeyondTolerance_of_onLine ((onLine_iff _).mpr sending)
    refine exec_of_effect (c := c) ⟨rfl, ?_⟩
    rw [fails]
    generalize (if c = .collision p then seven else q.abort) = abort
    have drives := attemptFailed_abort s.gw p (.resync 0) abort
    have again : q.attempts + 1 ≤ q.words.retryLimit.toNat →
        AllBut [portPart p] s.gw (s.gw.attemptFailed p (.resync 0) abort) ∧
          (s.gw.attemptFailed p (.resync 0) abort).port p = q.waitsAgain (.resync 0) abort := fun within => by
      rw [attemptFailed_of_within settled within, Gateway.port_setPort_self]
      exact ⟨setPort_allBut _ _ _, rfl⟩
    have gone := fun alone off quiet beyond =>
      attemptFailed_of_beyond (view := .resync 0) (abort := abort) (p := p) settled alone off quiet beyond
    generalize s.gw.attemptFailed p (.resync 0) abort = t at drives again gone ⊢
    refine ⟨drives, fun within => ?_, fun beyond urgent normal pending off quiet => ?_⟩
    · rw [drives]
      exact again within
    · obtain ⟨ended, latched⟩ := gone ⟨urgent, normal, pending⟩ off quiet beyond
      obtain ⟨role, port⟩ := ended.port
      rw [port]
      exact ⟨ended.frame, ended.counted, latched, rfl, rfl, rfl, rfl, ended.free⟩

end Sys2Proof.Machine
end

section
/-! SUPPORT. The outcomes a sender takes (R13, R14, R32 to R34, R49, R53, R87, R126). -/

open Sys2Proof

namespace Sys2Proof.Machine

/-! ## The levels of R1 and R2 that several claimants drive (R1, R13) -/

theorem role_levels_fst (role : SlotRole) : role.levels.1 = true ↔ role = .answered .ack ∨ role = .answered .nakBusy := by
  rcases role with _ | r | ⟨timer, retest⟩
  · simp [SlotRole.levels]
  · cases r <;> simp [SlotRole.levels, Response.levels]
  · simp [SlotRole.levels]

theorem role_levels_snd (role : SlotRole) : role.levels.2 = true ↔ role = .answered .ack ∨ role = .answered .nakRefuse := by
  rcases role with _ | r | ⟨timer, retest⟩
  · simp [SlotRole.levels]
  · cases r <;> simp [SlotRole.levels, Response.levels]
  · simp [SlotRole.levels]

theorem wired_fst (roles : List SlotRole) :
    (wiredLevels (roles.map SlotRole.levels)).1 = true ↔ .answered .ack ∈ roles ∨ .answered .nakBusy ∈ roles := by
  simp only [wiredLevels, List.any_map, List.any_eq_true, Function.comp_apply, role_levels_fst]
  constructor
  · rintro ⟨role, inside, rfl | rfl⟩
    · exact .inl inside
    · exact .inr inside
  · rintro (inside | inside)
    · exact ⟨_, inside, .inl rfl⟩
    · exact ⟨_, inside, .inr rfl⟩

theorem wired_snd (roles : List SlotRole) :
    (wiredLevels (roles.map SlotRole.levels)).2 = true ↔ .answered .ack ∈ roles ∨ .answered .nakRefuse ∈ roles := by
  simp only [wiredLevels, List.any_map, List.any_eq_true, Function.comp_apply, role_levels_snd]
  constructor
  · rintro ⟨role, inside, rfl | rfl⟩
    · exact .inl inside
    · exact .inr inside
  · rintro (inside | inside)
    · exact ⟨_, inside, .inl rfl⟩
    · exact ⟨_, inside, .inr rfl⟩

/-- What a sender reads of the claimants together (R13). -/
theorem wired_responses (roles : List SlotRole) :
    let line := wiredLevels (roles.map SlotRole.levels)
    ((.answered .ack ∈ roles ∨ (.answered .nakBusy ∈ roles ∧ .answered .nakRefuse ∈ roles)) → line = (true, true)) ∧
      ((∀ r, .answered r ∈ roles → r = .nakBusy) → .answered .nakBusy ∈ roles → line = (true, false)) ∧
      ((∀ r, .answered r ∈ roles → r = .nakRefuse) → .answered .nakRefuse ∈ roles → line = (false, true)) ∧
      ((∀ r, .answered r ∉ roles) → line = (false, false)) := by
  intro line
  have first := wired_fst roles
  have second := wired_snd roles
  refine ⟨fun both => ?_, fun all busy => ?_, fun all refuse => ?_, fun nobody => ?_⟩
  · refine Prod.ext (first.mpr ?_) (second.mpr ?_)
    · exact both.imp id And.left
    · exact both.imp id And.right
  · refine Prod.ext (first.mpr (.inr busy)) (Bool.eq_false_iff.mpr (mt second.mp ?_))
    rintro (ack | refuse)
    · exact nomatch all _ ack
    · exact nomatch all _ refuse
  · refine Prod.ext (Bool.eq_false_iff.mpr (mt first.mp ?_)) (second.mpr (.inr refuse))
    rintro (ack | busy)
    · exact nomatch all _ ack
    · exact nomatch all _ busy
  · refine Prod.ext (Bool.eq_false_iff.mpr (mt first.mp ?_)) (Bool.eq_false_iff.mpr (mt second.mp ?_))
    · exact fun any => any.elim (nobody _) (nobody _)
    · exact fun any => any.elim (nobody _) (nobody _)

/-! ## An outcome taken (R32) -/

/-- The view of the port has passed to the gap (R14). -/
def Gateway.gapped (g : Gateway) (p : PortId) : Gateway :=
  g.modPort p fun q => { q with view := .gap 0 }

theorem gapped_allBut (g : Gateway) (p : PortId) : AllBut [portPart p] g (g.gapped p) := modPort_allBut g p _

theorem gapped_port (g : Gateway) (p : PortId) : (g.gapped p).port p = { g.port p with view := .gap 0 } := by
  rw [Gateway.gapped, Gateway.port_modPort_self]

theorem gapped_counters (g : Gateway) (p : PortId) : (g.gapped p).counters = g.counters :=
  gapped_allBut g p .counters (by cases p <;> decide)

/-- The outcome taken with the view in the gap (R14, R32). -/
theorem transmitOutcome_of_within {g : Gateway} {p : PortId} {read : SlotRead} (onLine : (g.port p).tx.onLine = true)
    (within : (g.port p).withinTolerance read = true) :
    effect (.transmitOutcome p read) g = ((g.gapped p).takeOutcome p ((g.port p).slot.outcome read)).settle :=
  if_pos ⟨onLine, within⟩

/-- A transmission that ends at its end delimiter with nothing else to send (R14, R34). -/
theorem outcome_ends {g t : Gateway} {p : PortId} (settled : g.Settled) (alone : (g.port p).Alone)
    (off : g.general.noticeEnable = false) (quiet : g.general.poolPause = false) {c : PortCounter} {kind : EndKind}
    (outcome : (((g.gapped p).count p c).endTransmission p kind).settle = t) :
    Ended (portCounterIndex p c) g p (.gap 0) (g.port p).abort t ∧ t.monitor.flags0 = g.monitor.flags0 := by
  have counted : Counted (portCounterIndex p c) g ((g.gapped p).count p c) := by
    rw [Counted, ← gapped_counters g p]
    rfl
  have port : ((g.gapped p).count p c).port p = { g.port p with view := .gap 0 } := by
    rw [Gateway.port_count, gapped_port]
  obtain ⟨ended, flags⟩ := endTransmission_ended (h := (g.gapped p).count p c) (view := .gap 0) (abort := (g.port p).abort)
    settled alone off quiet (((gapped_allBut g p).mono (by simp)).trans ((bump_allBut _ _ _).mono (by simp))) counted
    (by rw [port]) (by rw [port]; rfl) kind
  rw [settle_of_settled _ ended.settled] at outcome
  rw [← outcome]
  exact ⟨ended, flags⟩

/-- The replies that wait for the port are the ones marked, where a buffer returned (R126). -/
theorem offersDue_eq (p : PortId) {n : Nat} (l : List AgentEntry) :
    (if n = 1 then offersDue p l else l) =
      l.map fun e => if n = 1 ∧ e.state = .replyWait ∧ e.buf.ingress = p then { e with offerDue := true } else e := by
  by_cases one : n = 1
  · simp [one, offersDue, AgentEntry.waitsOn]
  · simp [one]

theorem outcome_of_group {b : PoolBuffer} (group : isGroup b.frame.dest = true) (read : SlotRead) :
    (TxSlot.pool b).outcome read = .done :=
  if_pos group

/-- The outcome of a frame to one node, by what the sender reads (R14, R32). -/
theorem outcome_of_own {b : PoolBuffer} (own : isGroup b.frame.dest = false) :
    (TxSlot.pool b).outcome .unclaimed = .failedAttempt ∧
      ∀ hold, (TxSlot.pool b).outcome (.claimed hold true true) = .done ∧
        (TxSlot.pool b).outcome (.claimed hold true false) = .failedAttempt ∧
        ∀ r2, (TxSlot.pool b).outcome (.claimed hold false r2) = .refused := by
  have alone : ¬ isGroup b.frame.dest = true := by simp [own]
  refine ⟨if_neg alone, fun hold => ⟨if_neg alone, if_neg alone, fun r2 => ?_⟩⟩
  cases r2
  · exact if_neg alone
  · exact if_neg alone

/-- Settles O38, by the outcome that slot and reading give. -/
theorem transmitOutcomes : Obligations.TransmitOutcomes := by
  intro s p read settled sends within q ended failed alone
  refine ⟨wired_responses, ?_⟩
  have tolerated : (s.gw.port p).withinTolerance read = true := by
    cases read with
    | unclaimed => rfl
    | claimed hold r1 r2 => exact decide_eq_true (within hold r1 r2 rfl)
  have takes := transmitOutcome_of_within ((onLine_iff _).mpr sends) tolerated
  have ends : ∀ {t : Gateway} {c : PortCounter} {n : Nat}, (s.gw.port p).slot.poolFrames = n →
      Ended (portCounterIndex p c) s.gw p (.gap 0) (s.gw.port p).abort t → ended ⟨s.pending, t⟩ c n := by
    rintro t c n rfl done
    obtain ⟨role, port⟩ := done.port
    have offers := done.offers
    rw [offersDue_eq] at offers
    simp only [ended]
    rw [port]
    exact ⟨done.frame, done.counted, rfl, rfl, rfl, rfl, done.free, offers, done.prompts⟩
  refine exec_of_effect (c := .transmitOutcome p read) ⟨rfl, ?_⟩
  rw [takes]
  have finished : ∀ c kind t, alone → (((s.gw.gapped p).count p c).endTransmission p kind).settle = t →
      ended ⟨s.pending, t⟩ c (s.gw.port p).slot.poolFrames ∧ t.monitor.flags0 = s.gw.monitor.flags0 := by
    rintro c kind t ⟨urgent, normal, pending, off, quiet⟩ is
    obtain ⟨done, flags⟩ := outcome_ends settled ⟨urgent, normal, pending⟩ off quiet is
    exact ⟨ends rfl done, flags⟩
  obtain ⟨t, is⟩ : ∃ t, ((s.gw.gapped p).takeOutcome p ((s.gw.port p).slot.outcome read)).settle = t := ⟨_, rfl⟩
  rw [is]
  have doneEnds : (s.gw.port p).slot.outcome read = .done → alone →
      ended ⟨s.pending, t⟩ (s.gw.port p).slot.doneCounter (s.gw.port p).slot.poolFrames := by
    intro done nothing
    have slot : ((s.gw.gapped p).port p).slot = (s.gw.port p).slot := by rw [gapped_port]
    rw [done, Gateway.takeOutcome, slot] at is
    exact (finished _ _ _ nothing is).1
  have refusedEnds : (s.gw.port p).slot.outcome read = .refused → alone →
      ended ⟨s.pending, t⟩ .txFailed (s.gw.port p).slot.poolFrames ∧ t.monitor.flags0 = s.gw.monitor.flags0 := by
    intro refused nothing
    rw [refused] at is
    exact finished _ _ _ nothing is
  have fails : failed → s.gw.attemptFailed p (.gap 0) (s.gw.port p).abort = t := by
    rintro ⟨b, slot, own, reads⟩
    have failedAttempt : (s.gw.port p).slot.outcome read = .failedAttempt := by
      rw [slot]
      rcases reads with rfl | ⟨hold, rfl⟩
      · exact (outcome_of_own own).1
      · exact ((outcome_of_own own).2 hold).2.1
    rw [failedAttempt] at is
    exact is
  refine ⟨fun f slot nothing => ?_, fun b slot nothing reads => ?_, fun b hold r1 r2 slot nothing own reads unread => ?_,
    fun failing nothing beyond => ?_, fun failing again => ?_⟩
  · have done := doneEnds (by rw [slot]; rfl) nothing
    rw [slot] at done
    exact done
  · have done : (s.gw.port p).slot.outcome read = .done := by
      rw [slot]
      cases group : isGroup b.frame.dest with
      | true => exact outcome_of_group group read
      | false =>
        rcases reads with toGroup | ⟨hold, rfl⟩
        · rw [group] at toGroup
          cases toGroup
        · exact ((outcome_of_own group).2 hold).1
    have closes := doneEnds done nothing
    rw [slot] at closes
    exact closes
  · have refused : (s.gw.port p).slot.outcome read = .refused := by
      rw [slot, reads, unread]
      exact ((outcome_of_own own).2 hold).2.2 r2
    have closes := refusedEnds refused nothing
    rw [slot] at closes
    exact closes
  · have frames : (s.gw.port p).slot.poolFrames = 1 := by
      obtain ⟨b, slot, -⟩ := failing
      rw [slot]
      rfl
    obtain ⟨urgent, normal, pending, off, quiet⟩ := nothing
    obtain ⟨done, latched⟩ := attemptFailed_of_beyond (view := .gap 0) (abort := (s.gw.port p).abort) settled
      ⟨urgent, normal, pending⟩ off quiet beyond
    rw [fails failing] at done latched
    exact ⟨ends frames done, latched⟩
  · have waits := fails failing
    rw [attemptFailed_of_within settled again] at waits
    rw [← waits, Gateway.port_setPort_self]
    exact ⟨setPort_allBut s.gw p _, rfl⟩

end Sys2Proof.Machine
end

section
/-! SUPPORT. The end of a pause, with the heads that are too old (R37, R54, R57, R58, R60). -/

open Sys2Proof

namespace Sys2Proof.Machine

/-! ## One port's selection, old heads or not (R57, R58) -/

/-- Where one port alone selects, and is done with one selection, that is what an event's selections are. -/
theorem settle_of_one {g : Gateway} {p : PortId} (other : (g.port p.other).Settled)
    (own : ((g.selectEgress p).port p).Settled) (still : ((g.selectEgress p).port p.other).Settled) :
    g.settle = g.selectEgress p := by
  have again := selectEgress_of_settled (g.selectEgress p) p own
  have aside := selectEgress_of_settled (g.selectEgress p) p.other still
  have first := selectEgress_of_settled g p.other other
  cases p
  · simp only [PortId.other_a] at aside
    rw [Gateway.settle, aside, again, aside]
  · simp only [PortId.other_b] at aside first
    rw [Gateway.settle, first, aside, again]

theorem settled_of_full {q : Port} (full : q.slot ≠ .empty) : q.Settled := fun _ empty => absurd empty full

/-- What the discard of an old head leaves where nothing is asked for (R60). -/
structure Discarded (g : Gateway) (p : PortId) (q : Port) (t : Gateway) : Prop where
  frame : AllBut [.portA, .portB, .free, .counters, .agentQueue, .restart, .monitor] g t
  own : t.port p = Port.promptIf (fun _ => true) q
  other : t.port p.other = Port.promptIf (fun _ => true) (g.port p.other)
  free : t.free = g.free + 1
  latched : Latched (.aged p) t
  counted : Counted (portCounterIndex p .aged) g t

/-- An old head has left its queue and is counted and reported, its buffer not yet returned (R60). -/
def Gateway.agedOut (g : Gateway) (p : PortId) (q : Port) : Gateway :=
  ((g.setPort p q).count p .aged).latch (.aged p)

theorem discardAged_eq (g : Gateway) (p : PortId) (e : QueueEntry) (q : Port) :
    g.discardAged p e q = (g.agedOut p q).returned p e.buf .aged := rfl

theorem discardAged_discarded {g : Gateway} (off : g.general.noticeEnable = false) (quiet : g.general.poolPause = false)
    (p : PortId) (e : QueueEntry) (q : Port) : Discarded g p q (g.discardAged p e q) := by
  have taken : AllBut [portPart p, .counters] g ((g.setPort p q).count p .aged) :=
    ((setPort_allBut g p q).mono (by simp)).trans ((bump_allBut _ _ _).mono (by simp))
  have general : ((g.setPort p q).count p .aged).general = g.general := taken .general (by cases p <;> decide)
  have reports := latch_of_noticeOff_allBut (g := (g.setPort p q).count p .aged) (by rw [general]; exact off) (.aged p)
  have counted : Counted (portCounterIndex p .aged) g ((g.setPort p q).count p .aged) := by
    simp [Counted]
  have ports := port_of_allBut reports (by decide) (by decide)
  have latched := latch_latched ((g.setPort p q).count p .aged) (.aged p)
  have own : ((g.setPort p q).count p .aged).port p = q := by
    rw [Gateway.port_count, Gateway.port_setPort_self]
  have other : ((g.setPort p q).count p .aged).port p.other = g.port p.other := by
    rw [Gateway.port_count, Gateway.port_setPort_other]
  have free : ((g.setPort p q).count p .aged).free = g.free := taken .free (by cases p <;> decide)
  rw [discardAged_eq]
  unfold Gateway.agedOut
  generalize (g.setPort p q).count p .aged = c at taken general reports counted ports latched own other free ⊢
  have generals : (c.latch (.aged p)).general = c.general := reports .general (by decide)
  have freeKept : (c.latch (.aged p)).free = c.free := reports .free (by decide)
  have counters : (c.latch (.aged p)).counters = c.counters := reports .counters (by decide)
  obtain ⟨rest, roles, freed, -, -, keeps⟩ := returned_outcome (g := c.latch (.aged p)) (by rw [generals, general]; exact off)
    (by rw [generals, general]; exact quiet) p e.buf .aged
  have countersKept : ((c.latch (.aged p)).returned p e.buf .aged).counters = (c.latch (.aged p)).counters :=
    rest .counters (by decide)
  refine ⟨(taken.mono (by cases p <;> decide)).trans ((reports.mono (by decide)).trans (rest.mono (by decide))), ?_, ?_, ?_,
    keeps _ latched, ?_⟩
  · rw [roles, ports, own]
  · rw [roles, ports, other]
  · rw [freed, freeKept, free]
  · rw [Counted, countersKept, counters]
    exact counted

/-! ## The end of a pause (R37) -/

/-- The port is RUNNING again, its selection not yet taken (R37). -/
def Gateway.resumed (g : Gateway) (p : PortId) : Gateway :=
  g.modPort p fun q => { q with pause := .running }

theorem resumed_port (g : Gateway) (p : PortId) : (g.resumed p).port p = { g.port p with pause := .running } := by
  rw [Gateway.resumed, Gateway.port_modPort_self]

theorem resumed_other (g : Gateway) (p : PortId) : (g.resumed p).port p.other = g.port p.other :=
  Gateway.port_modPort_other _ _ _

theorem resumed_allBut (g : Gateway) (p : PortId) : AllBut [portPart p] g (g.resumed p) := modPort_allBut g p _

theorem effect_pauseExpiry {g : Gateway} {p : PortId} {bits : Nat} (paused : (g.port p).pause = .paused bits) :
    effect (.pauseExpiry p) g = (g.resumed p).settle := by
  show g.pauseExpiry p = _
  rw [Gateway.pauseExpiry, paused]
  rfl

/-- An old head is discarded, and the next head is examined (R58, R60). -/
theorem selectFrame_discards {g : Gateway} {p : PortId} {e : QueueEntry} {q : Port}
    (head : (g.port p).head = some (e, q)) (old : (g.port p).isOld e = true) (fuel : Nat) :
    g.selectFrame (fuel + 1) p = (g.discardAged p e q).selectFrame fuel p := by
  simp only [Gateway.selectFrame, head, old, if_true]

theorem selectFrame_of_nothing {g : Gateway} {p : PortId} (nothing : (g.port p).head = none) (fuel : Nat) :
    g.selectFrame (fuel + 1) p = g := by
  simp only [Gateway.selectFrame, nothing]

/-- A selection that meets an old head goes on with what the discard leaves (R58, R60). -/
theorem selectEgress_discards {g : Gateway} {p : PortId} {e : QueueEntry} {q : Port} (active : (g.port p).state = .active)
    (empty : (g.port p).slot = .empty) (pending : (g.port p).pendingPause = false) (running : (g.port p).pause = .running)
    (head : (g.port p).head = some (e, q)) (old : (g.port p).isOld e = true) :
    g.selectEgress p = (g.discardAged p e q).selectFrame ((g.port p).urgent.length + (g.port p).normal.length + 1) p := by
  unfold Gateway.selectEgress
  rw [if_pos ⟨active, empty⟩]
  dsimp only
  rw [takePause_of_unasked pending, if_pos ⟨empty, running⟩]
  exact selectFrame_discards head old _

/-- A port that the prompts have passed over, as its selection reads it: the same but for its part in the slot. -/
theorem promptIf_head {q r : Port} {e : QueueEntry} (c : DecisionRecord → Bool) (head : q.head = some (e, r)) :
    (Port.promptIf c q).head = some (e, { r with role := (Port.promptIf c q).role }) := by
  rw [promptIf_eq]
  cases urgent : q.urgent with
  | cons first rest =>
    simp only [Port.head, urgent, Option.some.injEq, Prod.mk.injEq] at head ⊢
    obtain ⟨rfl, rfl⟩ := head
    exact ⟨rfl, rfl⟩
  | nil =>
    cases normal : q.normal with
    | nil => simp [Port.head, urgent, normal] at head
    | cons first rest =>
      simp only [Port.head, urgent, normal, Option.some.injEq, Prod.mk.injEq] at head ⊢
      obtain ⟨rfl, rfl⟩ := head
      exact ⟨rfl, rfl⟩

/-- What a discard and the selection after it leave (R58, R60). -/
structure DiscardedThen (g : Gateway) (p : PortId) (slot : TxSlot) (urgent normal : List QueueEntry) (t : Gateway) : Prop where
  frame : AllBut [.portA, .portB, .free, .counters, .agentQueue, .restart, .monitor] g t
  slot : (t.port p).slot = slot
  urgent : (t.port p).urgent = urgent
  normal : (t.port p).normal = normal
  free : t.free = g.free + 1
  latched : Latched (.aged p) t
  counted : Counted (portCounterIndex p .aged) g t

theorem discarded_then_nothing {g d : Gateway} {p : PortId} {q : Port} (gone : Discarded g p q d)
    (other : (g.port p.other).Settled) (empty : q.slot = .empty) (pending : q.pendingPause = false) (urgent : q.urgent = [])
    (normal : q.normal = []) (fuel : Nat) :
    DiscardedThen g p .empty [] [] (d.selectFrame (fuel + 1) p) ∧ ((d.selectFrame (fuel + 1) p).port p).Settled ∧
      ((d.selectFrame (fuel + 1) p).port p.other).Settled := by
  have own : d.port p = { q with role := (Port.promptIf (fun _ => true) q).role } := by rw [gone.own, ← promptIf_eq]
  have ends : d.selectFrame (fuel + 1) p = d := selectFrame_of_nothing (by rw [own]; simp [Port.head, urgent, normal]) fuel
  rw [ends, gone.other]
  refine ⟨⟨gone.frame, ?_, ?_, ?_, gone.free, gone.latched, gone.counted⟩, ?_, promptIf_settled other⟩
  · rw [own, empty]
  · rw [own, urgent]
  · rw [own, normal]
  · rw [own]
    exact fun _ _ => ⟨pending, fun _ => ⟨urgent, normal⟩⟩

theorem discarded_then_load {g d : Gateway} {p : PortId} {q r : Port} {e : QueueEntry} (gone : Discarded g p q d)
    (other : (g.port p.other).Settled) (head : q.head = some (e, r)) (young : q.isOld e = false) (fuel : Nat) :
    DiscardedThen g p (.pool e.buf) r.urgent r.normal (d.selectFrame (fuel + 1) p) ∧
      ((d.selectFrame (fuel + 1) p).port p).Settled ∧ ((d.selectFrame (fuel + 1) p).port p.other).Settled := by
  have loads : d.selectFrame (fuel + 1) p =
      d.setPort p (({ r with role := (Port.promptIf (fun _ => true) q).role } : Port).loadSlot (.pool e.buf)) := by
    refine selectFrame_loads ?_ ?_ fuel
    · rw [gone.own]
      exact promptIf_head _ head
    · rw [gone.own, promptIf_eq]
      exact young
  have taken := setPort_allBut d p (({ r with role := (Port.promptIf (fun _ => true) q).role } : Port).loadSlot (.pool e.buf))
  have latched : Latched (.aged p) (d.selectFrame (fuel + 1) p) :=
    (latched_steadyAside (.aged p)).toSteady.selectFrame (fuel + 1) p gone.latched
  rw [loads] at latched ⊢
  rw [Gateway.port_setPort_self, Gateway.port_setPort_other, gone.other]
  have frame := gone.frame.trans (taken.mono (by cases p <;> decide))
  have counted : Counted (portCounterIndex p .aged) g
      (d.setPort p (({ r with role := (Port.promptIf (fun _ => true) q).role } : Port).loadSlot (.pool e.buf))) := by
    rw [Counted, Gateway.counters_setPort]
    exact gone.counted
  have free : (d.setPort p (({ r with role := (Port.promptIf (fun _ => true) q).role } : Port).loadSlot (.pool e.buf))).free =
      g.free + 1 := by
    rw [Gateway.free_setPort]
    exact gone.free
  refine ⟨⟨frame, ?_, ?_, ?_, free, latched, counted⟩, settled_of_full nofun, promptIf_settled other⟩
  · rw [Gateway.port_setPort_self]
    rfl
  · rw [Gateway.port_setPort_self]
    rfl
  · rw [Gateway.port_setPort_self]
    rfl

theorem isOld_false_iff (q : Port) (e : QueueEntry) :
    q.isOld e = false ↔ q.words.ageLimit = 0 ∨ e.age ≤ q.words.ageLimit.toNat := by
  by_cases none : q.words.ageLimit = 0#16
  · simp [Port.isOld, none]
  · simp [Port.isOld, none]

/-- Settles O35, by what the selection of the resumed port meets. -/
theorem pauseExpiryResumes : Obligations.PauseExpiryResumes := by
  intro s p bits paused settled
  have expires := effect_pauseExpiry paused
  have taken := resumed_allBut s.gw p
  have port := resumed_port s.gw p
  have other : ((s.gw.resumed p).port p.other).Settled := by
    rw [resumed_other]
    exact settled.port p.other
  have general : (s.gw.resumed p).general = s.gw.general := taken .general (by cases p <;> decide)
  have free : (s.gw.resumed p).free = s.gw.free := taken .free (by cases p <;> decide)
  have counters : (s.gw.resumed p).counters = s.gw.counters := taken .counters (by cases p <;> decide)
  refine exec_of_effect (c := .pauseExpiry p) ⟨rfl, ?_⟩
  rw [expires]
  generalize s.gw.resumed p = h at taken port other general free counters ⊢
  have running : (h.settle.port p).pause = .running := by
    rw [(settle_serves h p).pause, port]
  obtain ⟨t, is⟩ : ∃ t, h.settle = t := ⟨_, rfl⟩
  rw [is] at running ⊢
  have own : h.port p = { s.gw.port p with pause := .running } := port
  have nothingAsked : (s.gw.port p).state = .active → (s.gw.port p).slot = .empty → (h.port p).pendingPause = false := by
    intro active empty
    rw [own]
    exact (settled.port p active empty).1
  refine ⟨running, fun urgent normal => ?_, fun e rest active empty urgent => ⟨fun young => ?_, fun limit old off quiet => ?_⟩⟩
  · have idle : h.Settled := by
      have mine : (h.port p).Settled := by
        intro active empty
        rw [own] at active empty ⊢
        exact ⟨(settled.port p active empty).1, fun _ => ⟨urgent, normal⟩⟩
      cases p
      · exact ⟨mine, other⟩
      · exact ⟨other, mine⟩
    rw [settle_of_settled _ idle] at is
    rw [← is]
    exact ⟨taken, own⟩
  · have head : (h.port p).head = some (e, { h.port p with urgent := rest }) := by
      simp [Port.head, own, urgent]
    have loads : h.selectEgress p = h.setPort p (({ h.port p with urgent := rest } : Port).loadSlot (.pool e.buf)) :=
      selectEgress_loads (by rw [own]; exact active) (by rw [own]; exact empty) (nothingAsked active empty) (by rw [own])
        head (by rw [own]; exact (isOld_false_iff _ e).mpr young)
    have single : h.settle = h.selectEgress p := by
      refine settle_of_one other ?_ ?_
      · rw [loads, Gateway.port_setPort_self]
        exact settled_of_full nofun
      · rw [loads, Gateway.port_setPort_other]
        exact other
    have selected := setPort_allBut h p (({ h.port p with urgent := rest } : Port).loadSlot (.pool e.buf))
    rw [single, loads] at is
    rw [is] at selected
    rw [← is, Gateway.port_setPort_self, is, own]
    exact ⟨taken.trans selected, rfl, rfl, rfl, rfl, rfl⟩
  · intro onlyFirst
    have head : (h.port p).head = some (e, { h.port p with urgent := rest }) := by
      simp [Port.head, own, urgent]
    have tooOld : (h.port p).isOld e = true := by
      rw [← Bool.not_eq_false, isOld_false_iff, own]
      exact fun young => young.elim limit fun fresh => Nat.not_le.mpr old fresh
    have discards := selectEgress_discards (by rw [own]; exact active) (by rw [own]; exact empty) (nothingAsked active empty)
      (by rw [own]) head tooOld
    have gone := discardAged_discarded (g := h) (by rw [general]; exact off) (by rw [general]; exact quiet) p e
      { h.port p with urgent := rest }
    have only : ∀ slot urgent normal,
        (DiscardedThen h p slot urgent normal (h.selectEgress p) ∧ ((h.selectEgress p).port p).Settled ∧
          ((h.selectEgress p).port p.other).Settled) → onlyFirst slot urgent normal := by
      rintro slot urgent normal ⟨done, mine, theirs⟩
      rw [settle_of_one other mine theirs] at is
      rw [is] at done
      refine ⟨(taken.mono (by cases p <;> decide)).trans done.frame, done.slot, done.urgent, done.normal, ?_, done.latched, ?_⟩
      · rw [← free]
        exact done.free
      · rw [Counted, ← counters]
        exact done.counted
    refine ⟨fun last normal => ?_, fun e' rest' more fresh => ?_, fun e' rest' last normal fresh => ?_⟩
    · refine only _ _ _ ?_
      rw [discards]
      exact discarded_then_nothing gone other (by rw [own]; exact empty) (nothingAsked active empty) last (by rw [own]; exact normal) _
    · refine only _ _ _ ?_
      rw [discards]
      have next : ({ h.port p with urgent := rest } : Port).head = some (e', { h.port p with urgent := rest' }) := by
        simp [Port.head, more]
      have loaded := discarded_then_load gone other next
        ((isOld_false_iff _ e').mpr (.inr (by rw [own]; exact fresh))) ((h.port p).urgent.length + (h.port p).normal.length)
      rw [own] at loaded ⊢
      exact loaded
    · refine only _ _ _ ?_
      rw [discards]
      have next : ({ h.port p with urgent := rest } : Port).head =
          some (e', { h.port p with urgent := rest, normal := rest' }) := by
        simp [Port.head, last, own, normal]
      have loaded := discarded_then_load gone other next
        ((isOld_false_iff _ e').mpr (.inr (by rw [own]; exact fresh))) ((h.port p).urgent.length + (h.port p).normal.length)
      rw [last] at loaded ⊢
      exact loaded

end Sys2Proof.Machine
end

section
/-! SUPPORT. Replies offered and re-offered, and the end of an execution (R55, R87, R99, R119, R123, R125, R126). -/

open Sys2Proof

namespace Sys2Proof.Machine

/-! ## The first entry that meets a condition -/

theorem find?_of_first {c : AgentEntry → Bool} {before after : List AgentEntry} {e : AgentEntry}
    (none : ∀ x ∈ before, c x = false) (met : c e = true) : (before ++ e :: after).find? c = some e := by
  have unmet : before.find? c = .none := List.find?_eq_none.mpr fun x inside => by simp [none x inside]
  simp [List.find?_append, unmet, met]

theorem removeFirst_of_first {c : AgentEntry → Bool} {before after : List AgentEntry} {e : AgentEntry}
    (none : ∀ x ∈ before, c x = false) (met : c e = true) : removeFirst c (before ++ e :: after) = before ++ after := by
  induction before with
  | nil => simp [removeFirst, met]
  | cons x rest ih =>
    have others := ih fun y inside => none y (List.mem_cons_of_mem x inside)
    rw [List.cons_append, removeFirst, if_neg (by simp [none x List.mem_cons_self]), others, List.cons_append]

theorem updateFirst_of_first {c : AgentEntry → Bool} {before after : List AgentEntry} {e : AgentEntry}
    (none : ∀ x ∈ before, c x = false) (met : c e = true) (f : AgentEntry → AgentEntry) :
    updateFirst c f (before ++ e :: after) = before ++ f e :: after := by
  induction before with
  | nil => simp [updateFirst, met]
  | cons x rest ih =>
    have others := ih fun y inside => none y (List.mem_cons_of_mem x inside)
    rw [List.cons_append, updateFirst, if_neg (by simp [none x List.mem_cons_self]), others, List.cons_append]

theorem find?_updateFirst {c : AgentEntry → Bool} {f : AgentEntry → AgentEntry} {l : List AgentEntry} {e : AgentEntry}
    (found : l.find? c = some e) (still : c (f e) = true) : (updateFirst c f l).find? c = some (f e) := by
  obtain ⟨met, before, after, rfl, none⟩ := List.find?_eq_some_iff_append.mp found
  have unmet : ∀ x ∈ before, c x = false := fun x inside => by simpa using none x inside
  rw [updateFirst_of_first unmet met]
  exact find?_of_first unmet still

/-! ## A reply offered (R55, R126) -/

/-- A management hold re-tests when an entry leaves the agent queue (R87, R118). -/
def isManagement (r : DecisionRecord) : Bool := r.path = .management

/-- What a reply that its port admits leaves. -/
structure Offered (c : AgentEntry → Bool) (g : Gateway) (e : AgentEntry) (t : Gateway) : Prop where
  frame : AllBut [.portA, .portB, .agentQueue] g t
  own : t.port e.buf.ingress = Port.promptIf isManagement ((g.port e.buf.ingress).enqueue .urgent e.buf)
  other : t.port e.buf.ingress.other = Port.promptIf isManagement (g.port e.buf.ingress.other)
  queue : t.agentQueue = removeFirst c g.agentQueue

theorem promptAgent_port (g : Gateway) (x : PortId) : g.promptAgent.port x = Port.promptIf isManagement (g.port x) :=
  modBoth_port g _ x

theorem offerReply_offered {c : AgentEntry → Bool} {g : Gateway} {e : AgentEntry} (found : g.agentQueue.find? c = some e)
    (admits : (g.port e.buf.ingress).admits = true) : Offered c g e (g.offerReply c) := by
  obtain ⟨online, -⟩ := (Port.admits_eq_true_iff _).mp admits
  have taken : g.offerReply c =
      (({ g with agentQueue := removeFirst c g.agentQueue }).modPort e.buf.ingress (·.enqueue .urgent e.buf)).promptAgent := by
    rw [Gateway.offerReply, found]
    dsimp only
    rw [if_pos online, if_pos admits]
  have removed : AllBut [.agentQueue] g { g with agentQueue := removeFirst c g.agentQueue } :=
    .of_same fun x => by cases x <;> simp [Part.Same]
  have queued := modPort_allBut { g with agentQueue := removeFirst c g.agentQueue } e.buf.ingress (·.enqueue .urgent e.buf)
  have prompts := promptAgent_allBut
    (({ g with agentQueue := removeFirst c g.agentQueue }).modPort e.buf.ingress (·.enqueue .urgent e.buf))
  have queueKept : (({ g with agentQueue := removeFirst c g.agentQueue }).modPort e.buf.ingress
      (·.enqueue .urgent e.buf)).agentQueue = removeFirst c g.agentQueue :=
    queued .agentQueue (by cases e.buf.ingress <;> decide)
  rw [taken]
  refine ⟨(removed.mono (by decide)).trans ((queued.mono (by cases e.buf.ingress <;> decide)).trans (prompts.mono (by decide))),
    ?_, ?_, ?_⟩
  · rw [promptAgent_port, Gateway.port_modPort_self]
    cases e.buf.ingress <;> rfl
  · rw [promptAgent_port, Gateway.port_modPort_other]
    cases e.buf.ingress <;> rfl
  · have kept : (Gateway.promptAgent _).agentQueue = _ := prompts .agentQueue (by decide)
    rw [kept, queueKept]

/-- A reply that joins the queue of a port with a full slot leaves no selection due. -/
theorem Offered.settled {c : AgentEntry → Bool} {g t : Gateway} {e : AgentEntry} (h : Offered c g e t) (settled : g.Settled)
    (full : (g.port e.buf.ingress).slot ≠ .empty) : t.Settled := by
  have own : (t.port e.buf.ingress).Settled := by
    rw [h.own]
    exact promptIf_settled (settled_of_full full)
  have other : (t.port e.buf.ingress.other).Settled := by
    rw [h.other]
    exact promptIf_settled (settled.port _)
  generalize e.buf.ingress = p at own other
  cases p
  · exact ⟨own, other⟩
  · exact ⟨other, own⟩

theorem Offered.urgent {c : AgentEntry → Bool} {g t : Gateway} {e : AgentEntry} (h : Offered c g e t) :
    (t.port e.buf.ingress).urgent = (g.port e.buf.ingress).urgent ++ [⟨e.buf, 0⟩] ∧
      (t.port e.buf.ingress).normal = (g.port e.buf.ingress).normal := by
  rw [h.own, promptIf_eq]
  exact ⟨rfl, rfl⟩

/-- Settles O40, by whether an entry is due and its port admits the reply. -/
theorem waitingReplyIsReoffered : Obligations.WaitingReplyIsReoffered := by
  intro s p settled
  refine exec_of_effect (c := .replyReoffer p) ⟨rfl, fun nothing => ?_, fun before e after queue none met => ?_⟩
  · have idle : effect (.replyReoffer p) s.gw = s.gw := by
      refine if_neg ?_
      simp only [List.any_eq_true, not_exists, not_and]
      exact fun e inside => by simp [nothing e inside]
    rw [idle]
  · have found : s.gw.agentQueue.find? (AgentEntry.offerOn p) = some e := by
      rw [queue]
      exact find?_of_first none met
    have offers : effect (.replyReoffer p) s.gw = (s.gw.offerReply (AgentEntry.offerOn p)).settle := by
      refine if_pos ?_
      rw [queue]
      simp [met]
    obtain ⟨⟨waits, ingress⟩, -⟩ : (e.state = .replyWait ∧ e.buf.ingress = p) ∧ e.offerDue = true := by
      simpa [AgentEntry.offerOn, AgentEntry.waitsOn] using met
    rw [offers]
    refine ⟨fun online room full => ?_, fun online full => ?_⟩
    · have admits : (s.gw.port e.buf.ingress).admits = true := by
        rw [ingress]
        exact (Port.admits_eq_true_iff _).mpr ⟨online, room⟩
      have offered := offerReply_offered found admits
      rw [settle_of_settled _ (offered.settled settled (by rw [ingress]; exact full))]
      generalize s.gw.offerReply (AgentEntry.offerOn p) = t at offered ⊢
      obtain ⟨urgent, normal⟩ := offered.urgent
      obtain ⟨frame, own, other, removed⟩ := offered
      rw [ingress] at urgent normal own other
      rw [queue, removeFirst_of_first none met] at removed
      refine ⟨frame, removed, urgent, normal, fun x timer retest r role record => ?_⟩
      rcases PortId.eq_or_other p x with rfl | rfl
      · rw [own]
        exact promptIf_of_holding role record
      · rw [other]
        exact promptIf_of_holding role record
    · have stays : s.gw.offerReply (AgentEntry.offerOn p) =
          { s.gw with agentQueue := before ++ { e with offerDue := false } :: after } := by
        rw [Gateway.offerReply, found]
        dsimp only
        rw [ingress, if_pos online, if_neg, queue, updateFirst_of_first none met, ← waits]
        rw [Port.admits_eq_true_iff]
        exact fun room => Nat.not_lt.mpr full room.2
      have still : Gateway.Settled { s.gw with agentQueue := before ++ { e with offerDue := false } :: after } :=
        settled_of_same (g := s.gw) rfl rfl settled
      rw [stays, settle_of_settled _ still]
      exact ⟨.of_same fun x => by cases x <;> simp [Part.Same], rfl⟩

/-! ## The end of an execution (R119, R125, R126) -/

/-- The execution is over and its request's buffer turned into the reply, not yet offered (R125). -/
def Gateway.turned (g : Gateway) (ex : Execution) (status : RequestStatus) : Gateway :=
  { g with
    exec := none
    agentQueue :=
      updateFirst AgentEntry.isExecuting
        (fun e => { e with buf := g.replyBuffer e (ex.payload status) (status == .restarting) }) g.agentQueue }

theorem endExecution_eq (g : Gateway) (ex : Execution) (status : RequestStatus) :
    g.endExecution ex status = ((g.turned ex status).offerReply AgentEntry.isExecuting).beginExecution := rfl

theorem turned_allBut (g : Gateway) (ex : Execution) (status : RequestStatus) :
    AllBut [.agentQueue, .exec] g (g.turned ex status) :=
  .of_same fun x => by cases x <;> simp [Part.Same, Gateway.turned]

/-- The executing entry once its buffer holds the reply. -/
def turnedEntry (g : Gateway) (ex : Execution) (status : RequestStatus) (e : AgentEntry) : AgentEntry :=
  { e with buf := g.replyBuffer e (ex.payload status) (status == .restarting) }

theorem turned_executing {g : Gateway} {e : AgentEntry} (executing : g.executing = some e) (ex : Execution)
    (status : RequestStatus) :
    (g.turned ex status).agentQueue.find? AgentEntry.isExecuting = some (turnedEntry g ex status e) := by
  have found : g.agentQueue.find? AgentEntry.isExecuting = some e := executing
  have met : e.isExecuting = true := List.find?_some (p := AgentEntry.isExecuting) found
  exact find?_updateFirst (f := turnedEntry g ex status) found met

/-- What an execution that ends leaves, its port keeping the reply in the URGENT queue; while a restart stands no other
request begins. -/
structure Replied (g : Gateway) (e : AgentEntry) (payload : List Byte) (awaited : Bool) (t : Gateway) : Prop where
  frame : AllBut [.portA, .portB, .counters, .agentQueue, .exec] g t
  reply : g.RepliesWith t e payload awaited
  settled : t.Settled
  idle : g.restart ≠ .none → AllBut [.portA, .portB, .agentQueue, .exec] g t ∧ t.exec = none

theorem endExecution_replied {g : Gateway} {e : AgentEntry} (queues : g.QueuesReply e) (settled : g.Settled) (ex : Execution)
    (status : RequestStatus) :
    Replied g e (ex.payload status) (status == .restarting) (g.endExecution ex status) := by
  obtain ⟨executing, admits, full⟩ := queues
  have turns := turned_allBut g ex status
  have ports := port_of_allBut turns (by decide) (by decide)
  have offered := offerReply_offered (turned_executing executing ex status)
    (by rw [ports]; exact admits)
  have still := offered.settled (settled_of_same (ports .a) (ports .b) settled) (by rw [ports]; exact full)
  have urgent := offered.urgent.1
  rw [ports] at urgent
  have execGone : (g.turned ex status).exec = none := rfl
  have restartKept : (g.turned ex status).restart = g.restart := rfl
  rw [endExecution_eq]
  generalize (g.turned ex status).offerReply AgentEntry.isExecuting = o at offered still urgent ⊢
  have begins := beginExecution_allBut o
  have beginPorts := port_of_allBut begins (by decide) (by decide)
  have execKept : o.exec = (g.turned ex status).exec := offered.frame .exec (by decide)
  have restartStill : o.restart = (g.turned ex status).restart := offered.frame .restart (by decide)
  have whole : AllBut [.portA, .portB, .agentQueue, .exec] g o := (turns.mono (by decide)).trans (offered.frame.mono (by decide))
  refine ⟨(whole.mono (by decide)).trans (begins.mono (by decide)), ⟨(turnedEntry g ex status e).buf, ?_, rfl, ?_⟩,
    settled_of_same (beginPorts .a) (beginPorts .b) still, fun held => ?_⟩
  · exact ⟨rfl, rfl, rfl, rfl, rfl, rfl, rfl, rfl, rfl, rfl⟩
  · rw [beginPorts]
    exact urgent
  · rw [beginExecution_of_occupied (.inr (by rw [restartStill, restartKept]; exact held))]
    exact ⟨whole, execKept.trans execGone⟩

theorem skippedResults_eq (ops : List Op) : skippedResults ops = skippedBytes ops.length := by
  rw [skippedBytes, skippedResults]
  induction ops with
  | nil => rfl
  | cons op rest ih =>
    rw [List.flatMap_cons, ih, List.length_cons, List.replicate_succ, List.flatten_cons]
    rfl

/-- What the failure of an operation gives as the reply (R123, R183). -/
theorem failOp_replied {g : Gateway} {e : AgentEntry} (queues : g.QueuesReply e) (settled : g.Settled) (ex : Execution)
    (status : OpStatus) :
    Replied g e
      (ex.tag :: 0x00 :: BitVec.ofNat 8 ex.count :: (ex.results ++ [status.code, 0x00] ++ skippedBytes ex.ops.tail.length))
      false (g.failOp ex status) := by
  have replied := endExecution_replied queues settled
    { ex with
      results := ex.results ++ resultBytes status [] ++ skippedResults ex.ops.tail
      ops := []
      taken := [] } .ok
  rw [skippedResults_eq] at replied
  rw [Gateway.failOp, skippedResults_eq]
  exact replied

end Sys2Proof.Machine
end

section
/-! SUPPORT. When the body of an operation fails and when it is done (R123 to R142). -/

open Sys2Proof

namespace Sys2Proof.Machine

/-! ## The body of an operation that fails (R123, R127 to R142) -/

theorem fits_of_noRoom {ex : Execution} {n : Nat} (noRoom : ¬ ex.Room n) : ¬ ex.fits n = true :=
  mt (fits_iff_room ex n).mp noRoom

theorem readWords_of_noRoom {ex : Execution} {n : Nat} (noRoom : ¬ ex.Room (2 * n)) (k : Nat) (get : Nat → Word)
    (status : OpStatus) (part whole : Nat → Gateway) : ex.readWords n k get status part whole = .fail .replyFull :=
  if_neg (fits_of_noRoom noRoom)

theorem selectWindow_of_fails {g : Gateway} {table : Byte} {index : Word}
    (outside : ∀ t, Table.ofCode table.toNat = some t → t.size ≤ index.toNat) :
    g.selectWindow table index = .fail .badOperand := by
  unfold Gateway.selectWindow
  cases code : Table.ofCode table.toNat with
  | none => rfl
  | some t => exact if_neg (Nat.not_lt.mpr (outside t code))

theorem writeTargets_inside {t : Table} {start : Nat} {ws : List Word} {iw : Nat × Word}
    (target : iw ∈ writeTargets t start ws) : iw.1 < t.size := by
  simp only [writeTargets, List.mem_map] at target
  obtain ⟨wj, -, rfl⟩ := target
  exact Nat.mod_lt _ t.size_pos

/-- A target of a WRITE is protected exactly where its word is guarded (R130). -/
theorem any_protected_iff (g : Gateway) (ws : List Word) :
    ((writeTargets g.windowTable g.windowIndex ws).any fun iw => g.protectedTarget g.windowTable iw.1 iw.2) = true ↔
      ∃ iw ∈ writeTargets g.windowTable g.windowIndex ws, g.GuardedWord g.windowTable iw.1 iw.2 := by
  rw [List.any_eq_true]
  refine exists_congr fun iw => and_congr_right fun target => ?_
  exact protectedTarget_iff g _ _ _ (writeTargets_inside target)

theorem any_refused_iff (g : Gateway) (ws : List Word) :
    ((writeTargets g.windowTable g.windowIndex ws).any fun iw => !targetInRange g.windowTable iw.1 iw.2) = true ↔
      ∃ iw ∈ writeTargets g.windowTable g.windowIndex ws, ValueRefused g.windowTable iw.1 iw.2 := by
  rw [List.any_eq_true]
  refine exists_congr fun iw => and_congr_right fun _ => ?_
  rw [← targetInRange_iff, Bool.not_eq_true']

theorem writeWindow_of_fails {g : Gateway} {ex : Execution} {ws : List Word} {status : OpStatus}
    (access : g.execAccess = .full) (fails : g.Fails ex (.write ws) status) : g.writeWindow ws = .fail status := by
  rw [Gateway.Fails, if_neg (by simp [access])] at fails
  dsimp only at fails
  rw [← any_protected_iff, ← any_refused_iff] at fails
  unfold Gateway.writeWindow
  dsimp only
  rcases fails with ⟨count, rfl⟩ | ⟨one, most, guarded, rfl⟩ | ⟨one, most, free, refused, rfl⟩ | ⟨one, most, free, fine, route, bad, rfl⟩
  · rw [if_pos (by omega)]
  · rw [if_neg (by omega), if_pos guarded]
  · rw [if_neg (by omega), if_neg free, if_pos refused]
  · rw [if_neg (by omega), if_neg free, if_neg fine, if_pos ⟨route, by rw [route] at bad ⊢; simp [bad]⟩]

theorem writeBins_of_fails {g : Gateway} {port : Byte} {bins : List Byte} (value : Bool)
    (bad : bins.length = 0 ∨ 16 < bins.length ∨ 1 < port.toNat ∨ ∃ b ∈ bins, 64 ≤ b.toNat) :
    g.writeBins port bins value = .fail .badOperand :=
  if_pos (bad.imp id fun rest => rest.imp id fun rest => rest.imp id fun ⟨b, inside, large⟩ =>
    List.any_eq_true.mpr ⟨b, inside, decide_eq_true large⟩)

/-- The port byte, the header and the tag of a captured frame (R136). -/
theorem capturedHead_length (b : PoolBuffer) :
    (portByte b.ingress :: (b.frame.header ++ b.frame.tagBytes)).length = 9 + if b.frame.tag.isSome then 4 else 0 := by
  cases tag : b.frame.tag <;> simp [Frame.header, Frame.tagBytes, wordBytes, tag]

/-- An operation whose checks fail, its access apart, has a body that fails (R123, R127 to R142). -/
theorem opBody_of_fails {g : Gateway} {ex : Execution} {op : Op} {status : OpStatus}
    (access : op.needsFull = true → g.execAccess = .full) (other : op ≠ .restart) (fails : g.Fails ex op status) (k : Nat) :
    g.opBody k op ex = .fail status := by
  have checks := fails
  unfold Gateway.Fails at checks
  rw [if_neg (by rintro ⟨full, not⟩; exact not (access full))] at checks
  cases op with
  | ident =>
    obtain ⟨noRoom, rfl⟩ := checks
    exact readWords_of_noRoom (n := 8) noRoom k g.identWord .ok (fun _ => g) fun _ => g
  | select table index =>
    obtain ⟨outside, rfl⟩ := checks
    exact selectWindow_of_fails outside
  | read n =>
    rcases checks with ⟨count, rfl⟩ | ⟨one, most, noRoom, rfl⟩
    · exact if_neg count
    · exact (if_pos ⟨one, most⟩).trans (readWords_of_noRoom noRoom k _ _ _ _)
  | write ws => exact writeWindow_of_fails (access rfl) fails
  | groupSet port bins =>
    obtain ⟨bad, rfl⟩ := checks
    exact writeBins_of_fails true bad
  | groupClear port bins =>
    obtain ⟨bad, rfl⟩ := checks
    exact writeBins_of_fails false bad
  | counters block =>
    rcases checks with ⟨large, rfl⟩ | ⟨small, noRoom, rfl⟩
    · exact if_neg (Nat.not_le.mpr large)
    · exact (if_pos small).trans (readWords_of_noRoom noRoom k _ _ _ _)
  | countersClear block =>
    obtain ⟨large, rfl⟩ := checks
    exact if_neg (Nat.not_le.mpr large)
  | eventsRead =>
    obtain ⟨noRoom, rfl⟩ := checks
    exact readWords_of_noRoom (n := 6) noRoom k g.eventWord .ok (fun _ => g) fun _ => g
  | eventsClear w0 w1 => exact checks.elim
  | eventsMask w0 w1 => exact checks.elim
  | captureTake =>
    show g.takeCapture ex = _
    rcases checks with ⟨nothing, rfl⟩ | ⟨b, rest, queue, noRoom, rfl⟩
    · rw [Gateway.takeCapture, nothing]
    · rw [Gateway.takeCapture, queue]
      dsimp only
      rw [if_neg (by rw [capturedHead_length]; exact fits_of_noRoom noRoom)]
  | storeSelect page word =>
    rcases checks with ⟨busy, rfl⟩ | ⟨idle, outside, rfl⟩
    · exact if_pos busy
    · exact (if_neg (by simp [idle])).trans (if_pos outside)
  | storeRead n =>
    rcases checks with ⟨count, rfl⟩ | ⟨one, most, busy, rfl⟩ | ⟨one, most, idle, noRoom, rfl⟩
    · exact if_pos (by omega)
    · exact (if_neg (by omega)).trans (if_pos busy)
    · exact (if_neg (by omega)).trans ((if_neg (by simp [idle])).trans (readWords_of_noRoom noRoom k _ _ _ _))
  | storeFill ws =>
    rcases checks with ⟨count, rfl⟩ | ⟨one, most, busy, rfl⟩
    · exact if_pos (by omega)
    · exact (if_neg (by omega)).trans (if_pos busy)
  | storeStage =>
    rcases checks with ⟨busy, rfl⟩ | ⟨idle, outside, rfl⟩
    · exact if_pos busy
    · exact (if_neg (by simp [idle])).trans (if_pos outside)
  | storeErase =>
    rcases checks with ⟨busy, rfl⟩ | ⟨idle, zero, rfl⟩
    · exact if_pos busy
    · exact (if_neg (by simp [idle])).trans (if_pos zero)
  | storeWrite =>
    rcases checks with ⟨busy, rfl⟩ | ⟨idle, zero, rfl⟩ | ⟨idle, page, state, rfl⟩
    · exact if_pos busy
    · exact (if_neg (by simp [idle])).trans (if_pos zero)
    · exact (if_neg (by simp [idle])).trans ((if_neg page).trans (if_pos state))
  | storeStatus =>
    obtain ⟨noRoom, rfl⟩ := checks
    exact if_neg (fits_of_noRoom noRoom)
  | restart => exact absurd rfl other

/-- A failed operation ends the execution and nothing else comes of it (R123). -/
theorem effect_of_fails {g : Gateway} {ex : Execution} {op : Op} {status : OpStatus} (runs : g.Runs ex op)
    (fails : g.Fails ex op status) (k : Nat) : effect (op.command k) g = (g.failOp ex status).settle := by
  obtain ⟨exec, -⟩ := id runs
  by_cases denied : op.needsFull = true ∧ g.execAccess ≠ .full
  · obtain ⟨full, access⟩ := denied
    have status : status = .denied := by
      unfold Gateway.Fails at fails
      rw [if_pos ⟨full, access⟩] at fails
      exact fails
    rw [status]
    by_cases restart : op = .restart
    · subst restart
      rw [show Op.restart.command k = .restart from rfl, effect_restart runs, if_neg fun both => access both.1]
      exact runOp_of_denied g _ ex exec access
    · rw [effect_command runs restart, full]
      exact runOp_of_denied g _ ex exec access
  · have access : op.needsFull = true → g.execAccess = .full := fun full => not_not.mp fun not => denied ⟨full, not⟩
    by_cases restart : op = .restart
    · subst restart
      obtain ⟨busy, rfl⟩ : g.store.busy = true ∧ status = .storeInUse := by
        rw [Gateway.Fails, if_neg denied] at fails
        exact fails
      rw [show Op.restart.command k = .restart from rfl, effect_restart runs, if_neg (by simp [busy])]
      exact runOp_of_fail g true _ ex _ exec (fun _ => access rfl) rfl
    · rw [effect_command runs restart]
      exact runOp_of_fail g _ _ ex _ exec access (opBody_of_fails access restart fails k)

/-- Settles O43, by the one end all failures have. -/
theorem failedOperationEndsExecution : Obligations.FailedOperationEndsExecution := by
  intro s ex op status k runs fails settled
  have ends := effect_of_fails runs fails k
  have frame := (failOp_allBut s.gw ex status).trans (settle_allBut_replyParts _)
  have replied : ∀ e, s.gw.QueuesReply e → Replied s.gw e _ false (s.gw.failOp ex status).settle := fun e queues => by
    have reply := failOp_replied queues settled ex status
    rw [settle_of_settled _ reply.settled]
    exact reply
  refine exec_of_effect (c := op.command k) ⟨rfl, ?_⟩
  rw [ends]
  generalize (s.gw.failOp ex status).settle = t at frame replied ⊢
  exact ⟨frame, fun e queues => ⟨(replied e queues).frame, (replied e queues).reply⟩⟩

end Sys2Proof.Machine
end

section
/-! SUPPORT. SELECT, RESTART and the end of a decode (R121, R122, R127, R142, R143, R182). -/

open Sys2Proof

namespace Sys2Proof.Machine

/-! ## Operations that succeed -/

theorem access_of_succeeds {g : Gateway} {ex : Execution} {op : Op} (succeeds : g.Succeeds ex op) :
    op.needsFull = true → g.execAccess = .full := by
  intro full
  by_contra access
  refine succeeds.2 .denied ?_
  unfold Gateway.Fails
  rw [if_pos ⟨full, access⟩]

theorem checks_of_succeeds {g : Gateway} {ex : Execution} {op : Op} (succeeds : g.Succeeds ex op) :
    ¬ (op.needsFull = true ∧ g.execAccess ≠ .full) :=
  fun ⟨full, access⟩ => access (access_of_succeeds succeeds full)

/-- An operation that succeeds with more to come: its body's part, and the execution after it (R120, R123). -/
theorem effect_of_done {g g' : Gateway} {ex : Execution} {op : Op} {k : Nat} {status : OpStatus} {data : List Byte}
    {words : Nat} (runs : g.Runs ex op) (access : op.needsFull = true → g.execAccess = .full) (other : op ≠ .restart)
    (done : g.opBody k op ex = .done status data words g') (more : ex.ops.tail ≠ []) (settled : g'.Settled) :
    effect (op.command k) g = { g' with exec := some (ex.after status data words) } := by
  obtain ⟨exec, -⟩ := id runs
  rw [effect_command runs other]
  exact runOp_of_done_more g g' _ _ ex status data words exec access done more settled

/-- The last operation of its request ends the execution with the reply (R119, R125). -/
theorem finishOp_of_last {ex : Execution} (last : ex.ops.tail = []) (g : Gateway) (status : OpStatus) (data : List Byte)
    (words : Nat) : g.finishOp ex status data words = g.endExecution (ex.after status data words) .ok := by
  have results : ex.results ++ resultBytes status data = ex.results ++ [status.code, BitVec.ofNat 8 data.length] ++ data := by
    simp [resultBytes]
  unfold Gateway.finishOp Execution.after
  dsimp only
  rw [if_pos (by rw [last]; rfl), results]

theorem withExec_allBut (g : Gateway) (ex : Option Execution) : AllBut [.exec] g { g with exec := ex } :=
  .of_same fun x => by cases x <;> simp [Part.Same]

/-! ## SELECT (R127) -/

/-- The window set to a table and an index (R127). -/
def Gateway.windowAt (g : Gateway) (t : Table) (i : Nat) : Gateway :=
  { g with windowTable := t, windowIndex := i }

theorem windowAt_allBut (g : Gateway) (t : Table) (i : Nat) : AllBut [.window] g (g.windowAt t i) :=
  .of_same fun x => by cases x <;> simp [Part.Same, Gateway.windowAt]

/-- The table codes of R127 and the sizes of their tables. -/
theorem ofCode_of_small {code : Nat} (small : code ≤ 6) :
    ∃ t, Table.ofCode code = some t ∧
      some t = [Table.port, .general, .group, .meter, .route, .counters, .events][code]? ∧
      t.size = [16, 11, 8, 64, 768, 48, 6].getD code 0 := by
  interval_cases code
  · exact ⟨.port, rfl, rfl, rfl⟩
  · exact ⟨.general, rfl, rfl, rfl⟩
  · exact ⟨.group, rfl, rfl, rfl⟩
  · exact ⟨.meter, rfl, rfl, rfl⟩
  · exact ⟨.route, rfl, rfl, rfl⟩
  · exact ⟨.counters, rfl, rfl, rfl⟩
  · exact ⟨.events, rfl, rfl, rfl⟩

theorem RepliesWith.of_frame {g h t : Gateway} {e : AgentEntry} {payload : List Byte} {awaited : Bool} {l : List Part}
    (frame : AllBut l g h) (a : .portA ∉ l) (b : .portB ∉ l) (general : .general ∉ l)
    (reply : h.RepliesWith t e payload awaited) : g.RepliesWith t e payload awaited := by
  have same : h.general = g.general := frame .general general
  have ports := port_of_allBut frame a b e.buf.ingress
  simpa only [Gateway.RepliesWith, Gateway.ReplyOf, same, ports] using reply

theorem QueuesReply.of_frame {g h : Gateway} {e : AgentEntry} {l : List Part} (frame : AllBut l g h) (a : .portA ∉ l)
    (b : .portB ∉ l) (agent : .agentQueue ∉ l) (queues : g.QueuesReply e) : h.QueuesReply e := by
  have same : h.agentQueue = g.agentQueue := frame .agentQueue agent
  have ports := port_of_allBut frame a b e.buf.ingress
  simpa only [Gateway.QueuesReply, Gateway.executing, same, ports] using queues

/-- Settles O42, by whether operations are left. -/
theorem selectMovesWindow : Obligations.SelectMovesWindow := by
  intro s ex table index runs settled small inside
  obtain ⟨t, code, named, size⟩ := ofCode_of_small small
  have body : s.gw.opBody 0 (.select table index) ex = .done .ok [] 0 (s.gw.windowAt t index.toNat) := by
    show s.gw.selectWindow table index = _
    unfold Gateway.selectWindow
    rw [code]
    exact if_pos (by rw [size]; exact inside)
  have window := windowAt_allBut s.gw t index.toNat
  have still : (s.gw.windowAt t index.toNat).Settled := settled_of_same (g := s.gw) rfl rfl settled
  have selects : effect .select s.gw =
      ((s.gw.windowAt t index.toNat).finishOp ex .ok [] 0).settle := by
    rw [show Instr.select = Op.command 0 (.select table index) from rfl, effect_command runs (by simp)]
    exact runOp_of_done s.gw _ _ _ ex .ok [] 0 runs.1 nofun body
  have finished := finishOp_allBut (s.gw.windowAt t index.toNat) ex .ok [] 0
  have settles := settle_allBut_replyParts ((s.gw.windowAt t index.toNat).finishOp ex .ok [] 0)
  have rest := finished.trans settles
  have more : ex.ops.tail ≠ [] → ((s.gw.windowAt t index.toNat).finishOp ex .ok [] 0).settle =
      { s.gw.windowAt t index.toNat with exec := some (ex.after .ok [] 0) } := fun more => by
    rw [finishOp_of_more _ _ _ _ _ more]
    exact settle_of_settled _ still
  have replied : ex.ops.tail = [] → ∀ e, s.gw.QueuesReply e → s.gw.RepliesWith
      ((s.gw.windowAt t index.toNat).finishOp ex .ok [] 0).settle e
      (ex.tag :: 0x00 :: BitVec.ofNat 8 ex.count :: (ex.results ++ [0x00, 0x00])) false := fun last e queues => by
    have reply := endExecution_replied (QueuesReply.of_frame window (by decide) (by decide) (by decide) queues) still
      (ex.after .ok [] 0) .ok
    rw [finishOp_of_last last, settle_of_settled _ reply.settled]
    refine RepliesWith.of_frame window (by decide) (by decide) (by decide) ?_
    have payload : (ex.after .ok [] 0).payload .ok =
        ex.tag :: 0x00 :: BitVec.ofNat 8 ex.count :: (ex.results ++ [0x00, 0x00]) := by
      simp [Execution.payload, Execution.after, RequestStatus.code, OpStatus.code]
    rw [← payload]
    exact reply.reply
  refine exec_of_effect (c := .select) ⟨rfl, ?_⟩
  rw [selects]
  generalize ((s.gw.windowAt t index.toNat).finishOp ex .ok [] 0).settle = u at rest more replied ⊢
  obtain ⟨tableKept, indexKept⟩ : u.windowTable = t ∧ u.windowIndex = index.toNat := rest .window (by decide)
  refine ⟨?_, indexKept, fun tail => ?_, fun tail => ⟨(window.mono (by simp)).trans (rest.mono (by decide)), replied tail⟩⟩
  · rw [tableKept]
    exact named
  · rw [more tail]
    exact ⟨(window.mono (by decide)).trans ((withExec_allBut _ _).mono (by decide)), rfl⟩

/-! ## RESTART (R142, R143) -/

theorem discardReply_restart (g : Gateway) (b : PoolBuffer) :
    (g.discardReply b).restart = g.restart ∨ (g.discardReply b).restart = .due := by
  have before : AllBut [.portA, .portB, .free, .monitor] g ((g.giveBack 1).promptAgent).evalPool :=
    ((giveBack_allBut g 1).mono (by decide)).trans
      (((promptAgent_allBut _).mono (by decide)).trans ((evalPool_allBut _).mono (by decide)))
  have kept : ((g.giveBack 1).promptAgent).evalPool.restart = g.restart := before .restart (by decide)
  unfold Gateway.discardReply
  rcases reportEnd_eq_or ((g.giveBack 1).promptAgent).evalPool b .flushed with same | due | failed
  · rw [same]
    exact .inl kept
  · rw [due]
    exact .inr rfl
  · rw [failed]
    have latched : (((g.giveBack 1).promptAgent).evalPool.latch .noticeFailed).restart = _ :=
      latch_allBut _ _ .restart (by decide)
    exact .inl (latched.trans kept)

/-- An offer leaves a restart that stands standing (R143). -/
theorem offerReply_restart (c : AgentEntry → Bool) (g : Gateway) :
    (g.offerReply c).restart = g.restart ∨ (g.offerReply c).restart = .due := by
  unfold Gateway.offerReply
  dsimp only
  repeat' split
  · exact .inl rfl
  · rename_i e _ _ _
    have prompts := promptAgent_allBut
      (Gateway.modPort { g with agentQueue := removeFirst c g.agentQueue } e.buf.ingress (·.enqueue .urgent e.buf))
    have kept : _ = _ := prompts .restart (by decide)
    exact .inl (kept.trans (Gateway.restart_modPort _ _ _))
  · exact .inl rfl
  · exact discardReply_restart _ _

/-- The part while the restart is pending (R142). -/
def Gateway.restarting (g : Gateway) : Gateway := { g with restart := .pending }

theorem restarting_allBut (g : Gateway) : AllBut [.restart] g g.restarting :=
  .of_same fun x => by cases x <;> simp [Part.Same, Gateway.restarting]

/-- The execution of a RESTART that succeeds, as its reply gives it (R142). -/
def Execution.restarted (ex : Execution) : Execution :=
  { ex with
    results := ex.results ++ resultBytes .ok [] ++ skippedResults ex.ops.tail
    ops := []
    taken := [] }

theorem beginRestart_eq (g : Gateway) (ex : Execution) :
    g.beginRestart ex = g.restarting.endExecution ex.restarted .restarting := rfl

/-- While a restart stands the end of an execution begins no other (R143). -/
theorem endExecution_of_restart {g : Gateway} (held : g.restart ≠ .none) (ex : Execution) (status : RequestStatus) :
    g.endExecution ex status = (g.turned ex status).offerReply AgentEntry.isExecuting := by
  rw [endExecution_eq, beginExecution_of_occupied]
  right
  rcases offerReply_restart AgentEntry.isExecuting (g.turned ex status) with same | due
  · rw [same]
    exact held
  · rw [due]
    exact nofun

/-- A reply that a port which is not ONLINE does not take is discarded, its buffer returned (R126). -/
theorem offerReply_discarded {c : AgentEntry → Bool} {g : Gateway} {e : AgentEntry} (found : g.agentQueue.find? c = some e)
    (out : (g.port e.buf.ingress).online = false) :
    g.offerReply c = ({ g with agentQueue := removeFirst c g.agentQueue }).discardReply e.buf := by
  rw [Gateway.offerReply, found]
  dsimp only
  rw [if_neg (by simp [out])]

/-- The reply that a restart waits for makes it due when it is discarded (R143). -/
theorem discardReply_awaited {g : Gateway} (settled : g.Settled) (off : g.general.noticeEnable = false) {b : PoolBuffer}
    (reply : b.origin = .reply) (awaited : b.awaited = true) :
    (g.discardReply b).restart = .due ∧ (g.discardReply b).free = g.free + 1 ∧ (g.discardReply b).NothingAged := by
  have before : AllBut [.portA, .portB, .free] g ((g.giveBack 1).promptAgent) :=
    (giveBack_allBut g 1).trans ((promptAgent_allBut _).mono (by decide))
  have general : ((g.giveBack 1).promptAgent).general = g.general := before .general (by decide)
  have freeKept : ((g.giveBack 1).promptAgent).free = (g.giveBack 1).free := promptAgent_allBut _ .free (by decide)
  obtain ⟨pool, -⟩ := evalPool_of_noticeOff (g := (g.giveBack 1).promptAgent) (by rw [general]; exact off)
  have free : ((g.giveBack 1).promptAgent).evalPool.free = ((g.giveBack 1).promptAgent).free := pool .free (by decide)
  have young : ((g.giveBack 1).promptAgent).NothingAged := fun x => by
    rw [promptAgent_port, Gateway.giveBack, Gateway.promptReturn, modBoth_port]
    refine promptIf_nothingAged (promptIf_nothingAged ?_)
    cases x
    · exact settled.1.nothingAged
    · exact settled.2.nothingAged
  have due : g.discardReply b = { ((g.giveBack 1).promptAgent).evalPool with restart := .due } := by
    unfold Gateway.discardReply Gateway.reportEnd
    rw [reply]
    exact if_pos awaited
  rw [due]
  refine ⟨rfl, ?_, fun x => ?_⟩
  · dsimp only
    rw [free, freeKept, giveBack_free]
  · have sends := (evalPool_sendsOnly _).keeps_nothingAged young x
    cases x
    · exact sends
    · exact sends

/-- Settles O52, by whether the port takes the reply. -/
theorem restartPends : Obligations.RestartPends := by
  intro s ex e succeeds settled executing
  have access := access_of_succeeds succeeds rfl
  have idle : s.gw.store.busy = false := by
    by_contra busy
    refine succeeds.2 .storeInUse ?_
    unfold Gateway.Fails
    rw [if_neg (checks_of_succeeds succeeds)]
    exact ⟨by simpa using busy, rfl⟩
  have restarts : effect .restart s.gw = (s.gw.beginRestart ex).settle :=
    (effect_restart succeeds.1).trans (if_pos ⟨access, idle⟩)
  have held : s.gw.restarting.restart ≠ .none := nofun
  have frame := restarting_allBut s.gw
  have base : s.gw.restarting.Settled := settled_of_same (g := s.gw) rfl rfl settled
  have payload : ex.restarted.payload .restarting = ex.tag :: 0x02 :: BitVec.ofNat 8 ex.count ::
      (ex.results ++ [0x00, 0x00] ++ skippedBytes ex.ops.tail.length) := by
    rw [← skippedResults_eq]
    rfl
  have gone : (s.gw.beginRestart ex).settle.exec = none := by
    have kept : (s.gw.beginRestart ex).settle.exec = (s.gw.beginRestart ex).exec := settle_allBut _ .exec (by decide)
    rw [kept, beginRestart_eq, endExecution_of_restart held]
    exact offerReply_allBut _ _ .exec (by decide)
  have replied : s.gw.QueuesReply e → Replied s.gw.restarting e (ex.restarted.payload .restarting) true
      (s.gw.beginRestart ex).settle := fun queues => by
    have reply := endExecution_replied (QueuesReply.of_frame frame (by decide) (by decide) (by decide) queues) base
      ex.restarted .restarting
    rw [beginRestart_eq, settle_of_settled _ reply.settled]
    exact reply
  have discarded : (s.gw.port e.buf.ingress).online = false → s.gw.general.noticeEnable = false →
      (s.gw.beginRestart ex).settle.restart = .due ∧ (s.gw.beginRestart ex).settle.free = s.gw.free + 1 := fun out off => by
    have turned := turned_executing (g := s.gw.restarting) executing ex.restarted .restarting
    have offers := offerReply_discarded turned out
    have still : Gateway.Settled { s.gw.restarting.turned ex.restarted .restarting with
        agentQueue := removeFirst AgentEntry.isExecuting (s.gw.restarting.turned ex.restarted .restarting).agentQueue } :=
      settled_of_same (g := s.gw) rfl rfl settled
    obtain ⟨due, free, young⟩ := discardReply_awaited still off
      (b := (turnedEntry s.gw.restarting ex.restarted .restarting e).buf) rfl rfl
    obtain ⟨selects, -⟩ := settle_of_nothingAged _ young
    have restartKept : _ = _ := selects .restart (by decide)
    have freeKept : _ = _ := selects .free (by decide)
    rw [beginRestart_eq, endExecution_of_restart held, offers]
    exact ⟨restartKept.trans due, freeKept.trans free⟩
  refine exec_of_effect (c := .restart) ⟨rfl, ?_⟩
  rw [restarts]
  generalize (s.gw.beginRestart ex).settle = t at gone replied discarded ⊢
  refine ⟨gone, fun queues => ?_, discarded⟩
  obtain ⟨-, reply, -, idles⟩ := replied queues
  obtain ⟨whole, -⟩ := idles held
  rw [payload] at reply
  exact ⟨(frame.mono (by decide)).trans (whole.mono (by decide)), whole .restart (by decide),
    RepliesWith.of_frame frame (by decide) (by decide) (by decide) reply⟩

end Sys2Proof.Machine
end

section
/-! SUPPORT. Requests and their bytes (R121, R122, R182). -/

open Sys2Proof

namespace Sys2Proof.Machine

/-! ## Words as bytes (R182) -/

theorem extractLsb'_append_halves {n : Nat} (hi lo : BitVec n) :
    (hi ++ lo).extractLsb' n n = hi ∧ (hi ++ lo).extractLsb' 0 n = lo := by
  refine ⟨BitVec.eq_of_getLsbD_eq fun i inside => ?_, BitVec.eq_of_getLsbD_eq fun i inside => ?_⟩
  · rw [BitVec.getLsbD_extractLsb', BitVec.getLsbD_append]
    simp [inside]
  · rw [BitVec.getLsbD_extractLsb', BitVec.getLsbD_append]
    simp [inside]

theorem wordBytes_wordOf (hi lo : Byte) : wordBytes (wordOf hi lo) = [hi, lo] := by
  obtain ⟨high, low⟩ := extractLsb'_append_halves hi lo
  unfold wordBytes highByte lowByte wordOf
  rw [high, low]

theorem wordsBytes_length (ws : List Word) : (wordsBytes ws).length = 2 * ws.length := by
  induction ws with
  | nil => rfl
  | cons w rest ih =>
    rw [wordsBytes] at ih ⊢
    rw [List.flatMap_cons, List.length_append, ih, List.length_cons, wordBytes]
    simp only [List.length_cons, List.length_nil]
    omega

theorem bytesWords_wordsBytes (ws : List Word) : bytesWords (wordsBytes ws) = ws := by
  induction ws with
  | nil => rfl
  | cons w rest ih =>
    show wordOf (highByte w) (lowByte w) :: bytesWords (wordsBytes rest) = w :: rest
    rw [ih, wordOf_bytes]

theorem wordsBytes_bytesWords {n : Nat} {bytes : List Byte} (even : bytes.length = 2 * n) :
    wordsBytes (bytesWords bytes) = bytes ∧ (bytesWords bytes).length = n := by
  induction n generalizing bytes with
  | zero =>
    obtain rfl := List.length_eq_zero_iff.mp even
    exact ⟨rfl, rfl⟩
  | succ n ih =>
    match bytes, even with
    | hi :: lo :: rest, even =>
      have shorter : rest.length = 2 * n := by
        simp only [List.length_cons] at even
        omega
      obtain ⟨back, length⟩ := ih shorter
      refine ⟨?_, congrArg (· + 1) length⟩
      show wordBytes (wordOf hi lo) ++ wordsBytes (bytesWords rest) = hi :: lo :: rest
      rw [wordBytes_wordOf, back]
      rfl

/-! ## The parts of an operation (R182) -/

theorem takeBytes_eq_some_iff (n : Nat) (bytes taken rest : List Byte) :
    takeBytes n bytes = some (taken, rest) ↔ bytes = taken ++ rest ∧ taken.length = n := by
  unfold takeBytes
  constructor
  · intro h
    split at h
    · rename_i enough
      cases h
      exact ⟨(List.take_append_drop n bytes).symm, List.length_take_of_le enough⟩
    · cases h
  · rintro ⟨rfl, rfl⟩
    simp

theorem parseByte_eq_some_iff (mk : Byte → Op) (bytes : List Byte) (op : Op) (rest : List Byte) :
    parseByte mk bytes = some (op, rest) ↔ ∃ b, op = mk b ∧ bytes = b :: rest := by
  cases bytes with
  | nil => simp [parseByte]
  | cons b more => simp [parseByte, eq_comm]

theorem parseTwoWords_eq_some_iff (mk : Word → Word → Op) (bytes : List Byte) (op : Op) (rest : List Byte) :
    parseTwoWords mk bytes = some (op, rest) ↔ ∃ w0 w1, op = mk w0 w1 ∧ bytes = wordBytes w0 ++ wordBytes w1 ++ rest := by
  unfold parseTwoWords
  constructor
  · intro h
    split at h
    · cases h
      exact ⟨_, _, rfl, by rw [wordBytes_wordOf, wordBytes_wordOf]; rfl⟩
    · cases h
  · rintro ⟨w0, w1, rfl, rfl⟩
    simp [wordBytes, wordOf_bytes]

theorem toNat_ofNat_byte {n : Nat} (small : n < 256) : (BitVec.ofNat 8 n).toNat = n := by
  rw [BitVec.toNat_ofNat]
  omega

theorem parseWords_eq_some_iff (mk : List Word → Op) (bytes : List Byte) (op : Op) (rest : List Byte) :
    parseWords mk bytes = some (op, rest) ↔
      ∃ ws, op = mk ws ∧ ws.length < 256 ∧ bytes = BitVec.ofNat 8 ws.length :: (wordsBytes ws ++ rest) := by
  unfold parseWords
  constructor
  · intro h
    split at h
    · rename_i count more
      obtain ⟨⟨taken, left⟩, split, made⟩ := Option.map_eq_some_iff.mp h
      obtain ⟨rfl, even⟩ := (takeBytes_eq_some_iff _ _ _ _).mp split
      obtain ⟨back, length⟩ := wordsBytes_bytesWords even
      cases made
      refine ⟨_, rfl, ?_, ?_⟩
      · rw [length]
        exact count.isLt
      · rw [length, back, BitVec.ofNat_toNat, BitVec.setWidth_eq]
    · cases h
  · rintro ⟨ws, rfl, small, rfl⟩
    have split := (takeBytes_eq_some_iff (2 * (BitVec.ofNat 8 ws.length).toNat) (wordsBytes ws ++ rest) (wordsBytes ws) rest).mpr
      ⟨rfl, by rw [wordsBytes_length, toNat_ofNat_byte small]⟩
    dsimp only
    rw [split, Option.map_some, bytesWords_wordsBytes]

theorem parseBins_eq_some_iff (mk : Byte → List Byte → Op) (bytes : List Byte) (op : Op) (rest : List Byte) :
    parseBins mk bytes = some (op, rest) ↔
      ∃ port bins, op = mk port bins ∧ bins.length < 256 ∧ bytes = port :: BitVec.ofNat 8 bins.length :: (bins ++ rest) := by
  unfold parseBins
  constructor
  · intro h
    split at h
    · rename_i port count more
      obtain ⟨⟨taken, left⟩, split, made⟩ := Option.map_eq_some_iff.mp h
      obtain ⟨rfl, length⟩ := (takeBytes_eq_some_iff _ _ _ _).mp split
      cases made
      refine ⟨port, taken, rfl, ?_, ?_⟩
      · rw [length]
        exact count.isLt
      · rw [length, BitVec.ofNat_toNat, BitVec.setWidth_eq]
    · cases h
  · rintro ⟨port, bins, rfl, small, rfl⟩
    have split := (takeBytes_eq_some_iff (BitVec.ofNat 8 bins.length).toNat (bins ++ rest) bins rest).mpr
      ⟨rfl, (toNat_ofNat_byte small).symm⟩
    dsimp only
    rw [split, Option.map_some]

/-! ## One operation (R182) -/

theorem byte_eq_of_toNat {b : Byte} {n : Nat} (h : b.toNat = n) : b = BitVec.ofNat 8 n := by
  rw [← h, BitVec.ofNat_toNat, BitVec.setWidth_eq]

/-- The bytes of an operation give it back. -/
theorem parseOp_bytes {op : Op} (fits : op.fits = true) (rest : List Byte) : parseOp (op.bytes ++ rest) = some (op, rest) := by
  cases op with
  | read n =>
    have small : n < 256 := of_decide_eq_true fits
    show parseByte (fun b => .read b.toNat) (BitVec.ofNat 8 n :: rest) = _
    rw [parseByte, toNat_ofNat_byte small]
  | storeRead n =>
    have small : n < 256 := of_decide_eq_true fits
    show parseByte (fun b => .storeRead b.toNat) (BitVec.ofNat 8 n :: rest) = _
    rw [parseByte, toNat_ofNat_byte small]
  | write ws => exact (parseWords_eq_some_iff .write _ _ _).mpr ⟨ws, rfl, of_decide_eq_true fits, rfl⟩
  | storeFill ws => exact (parseWords_eq_some_iff .storeFill _ _ _).mpr ⟨ws, rfl, of_decide_eq_true fits, rfl⟩
  | groupSet port bins => exact (parseBins_eq_some_iff .groupSet _ _ _).mpr ⟨port, bins, rfl, of_decide_eq_true fits, rfl⟩
  | groupClear port bins => exact (parseBins_eq_some_iff .groupClear _ _ _).mpr ⟨port, bins, rfl, of_decide_eq_true fits, rfl⟩
  | eventsClear w0 w1 => exact (parseTwoWords_eq_some_iff .eventsClear _ _ _).mpr ⟨w0, w1, rfl, rfl⟩
  | eventsMask w0 w1 => exact (parseTwoWords_eq_some_iff .eventsMask _ _ _).mpr ⟨w0, w1, rfl, rfl⟩
  | select table index =>
    show some (Op.select table (wordOf (highByte index) (lowByte index)), rest) = _
    rw [wordOf_bytes]
  | counters block => rfl
  | countersClear block => rfl
  | storeSelect page word => rfl
  | ident => rfl
  | eventsRead => rfl
  | captureTake => rfl
  | storeStage => rfl
  | storeErase => rfl
  | storeWrite => rfl
  | storeStatus => rfl
  | restart => rfl

/-- What is read as an operation is the bytes of that operation. -/
theorem bytes_of_parseOp {bytes rest : List Byte} {op : Op} (h : parseOp bytes = some (op, rest)) :
    bytes = op.bytes ++ rest ∧ op.fits = true := by
  cases bytes with
  | nil => cases h
  | cons code more =>
    unfold parseOp at h
    dsimp only at h
    split at h
    case h_1 is =>
      cases h
      rw [byte_eq_of_toNat is]
      exact ⟨rfl, rfl⟩
    case h_2 is =>
      split at h
      · cases h
        rw [byte_eq_of_toNat is]
        exact ⟨by rw [Op.bytes, wordBytes_wordOf]; rfl, rfl⟩
      · cases h
    case h_3 is =>
      obtain ⟨b, rfl, rfl⟩ := (parseByte_eq_some_iff _ _ _ _).mp h
      rw [byte_eq_of_toNat is]
      exact ⟨by simp [Op.bytes], decide_eq_true b.isLt⟩
    case h_4 is =>
      obtain ⟨ws, rfl, small, rfl⟩ := (parseWords_eq_some_iff _ _ _ _).mp h
      rw [byte_eq_of_toNat is]
      exact ⟨rfl, decide_eq_true small⟩
    case h_5 is =>
      obtain ⟨port, bins, rfl, small, rfl⟩ := (parseBins_eq_some_iff _ _ _ _).mp h
      rw [byte_eq_of_toNat is]
      exact ⟨rfl, decide_eq_true small⟩
    case h_6 is =>
      obtain ⟨port, bins, rfl, small, rfl⟩ := (parseBins_eq_some_iff _ _ _ _).mp h
      rw [byte_eq_of_toNat is]
      exact ⟨rfl, decide_eq_true small⟩
    case h_7 is =>
      obtain ⟨b, rfl, rfl⟩ := (parseByte_eq_some_iff _ _ _ _).mp h
      rw [byte_eq_of_toNat is]
      exact ⟨rfl, rfl⟩
    case h_8 is =>
      obtain ⟨b, rfl, rfl⟩ := (parseByte_eq_some_iff _ _ _ _).mp h
      rw [byte_eq_of_toNat is]
      exact ⟨rfl, rfl⟩
    case h_9 is =>
      cases h
      rw [byte_eq_of_toNat is]
      exact ⟨rfl, rfl⟩
    case h_10 is =>
      obtain ⟨w0, w1, rfl, rfl⟩ := (parseTwoWords_eq_some_iff _ _ _ _).mp h
      rw [byte_eq_of_toNat is]
      exact ⟨rfl, rfl⟩
    case h_11 is =>
      obtain ⟨w0, w1, rfl, rfl⟩ := (parseTwoWords_eq_some_iff _ _ _ _).mp h
      rw [byte_eq_of_toNat is]
      exact ⟨rfl, rfl⟩
    case h_12 is =>
      cases h
      rw [byte_eq_of_toNat is]
      exact ⟨rfl, rfl⟩
    case h_13 is =>
      split at h
      · cases h
        rw [byte_eq_of_toNat is]
        exact ⟨rfl, rfl⟩
      · cases h
    case h_14 is =>
      obtain ⟨b, rfl, rfl⟩ := (parseByte_eq_some_iff _ _ _ _).mp h
      rw [byte_eq_of_toNat is]
      exact ⟨by simp [Op.bytes], decide_eq_true b.isLt⟩
    case h_15 is =>
      obtain ⟨ws, rfl, small, rfl⟩ := (parseWords_eq_some_iff _ _ _ _).mp h
      rw [byte_eq_of_toNat is]
      exact ⟨rfl, decide_eq_true small⟩
    case h_16 is =>
      cases h
      rw [byte_eq_of_toNat is]
      exact ⟨rfl, rfl⟩
    case h_17 is =>
      cases h
      rw [byte_eq_of_toNat is]
      exact ⟨rfl, rfl⟩
    case h_18 is =>
      cases h
      rw [byte_eq_of_toNat is]
      exact ⟨rfl, rfl⟩
    case h_19 is =>
      cases h
      rw [byte_eq_of_toNat is]
      exact ⟨rfl, rfl⟩
    case h_20 is =>
      cases h
      rw [byte_eq_of_toNat is]
      exact ⟨rfl, rfl⟩
    case h_21 => cases h

/-- So many operations are read, and nothing after them, exactly from the bytes of operations that fit (R121, R182). -/
theorem parseOps_eq_some_iff (n : Nat) (bytes : List Byte) (ops : List Op) :
    parseOps n bytes = some ops ↔ bytes = ops.flatMap Op.bytes ∧ ops.length = n ∧ ops.all Op.fits = true := by
  induction n generalizing bytes ops with
  | zero =>
    cases bytes with
    | nil =>
      cases ops with
      | nil => simp [parseOps]
      | cons op rest => simp [parseOps]
    | cons b more =>
      cases ops with
      | nil => simp [parseOps]
      | cons op rest => simp [parseOps]
  | succ n ih =>
    constructor
    · intro h
      cases first : parseOp bytes with
      | none => simp [parseOps, first] at h
      | some read =>
        obtain ⟨op, rest⟩ := read
        simp only [parseOps, first, Option.map_eq_some_iff] at h
        obtain ⟨more, others, rfl⟩ := h
        obtain ⟨rfl, fits⟩ := bytes_of_parseOp first
        obtain ⟨rfl, rfl, all⟩ := (ih _ _).mp others
        exact ⟨rfl, rfl, by simp [fits, all]⟩
    · rintro ⟨rfl, length, all⟩
      cases ops with
      | nil => cases length
      | cons op more =>
        obtain ⟨fits, rest⟩ : op.fits = true ∧ more.all Op.fits = true := by simpa using all
        have others := (ih (more.flatMap Op.bytes) more).mpr ⟨rfl, by simpa using length, rest⟩
        rw [List.flatMap_cons, parseOps, parseOp_bytes fits]
        dsimp only
        rw [others, Option.map_some]

/-- A request payload is a tag, a count of 1 to 16, and the bytes of that many operations that fit (R121, R182). -/
theorem parseRequest_eq_some_iff (payload : List Byte) (ops : List Op) :
    parseRequest payload = some ops ↔
      ∃ tag, payload = tag :: BitVec.ofNat 8 ops.length :: ops.flatMap Op.bytes ∧ 1 ≤ ops.length ∧ ops.length ≤ 16 ∧
        ops.all Op.fits = true := by
  constructor
  · intro h
    match payload, h with
    | tag :: count :: rest, h =>
      unfold parseRequest at h
      dsimp only at h
      split at h
      · rename_i range
        obtain ⟨rfl, length, all⟩ := (parseOps_eq_some_iff _ _ _).mp h
        refine ⟨tag, ?_, by omega, by omega, all⟩
        rw [length, BitVec.ofNat_toNat, BitVec.setWidth_eq]
      · cases h
  · rintro ⟨tag, rfl, one, most, all⟩
    have count : (BitVec.ofNat 8 ops.length).toNat = ops.length := toNat_ofNat_byte (by omega)
    unfold parseRequest
    dsimp only
    rw [count, if_pos ⟨one, most⟩]
    exact (parseOps_eq_some_iff _ _ _).mpr ⟨rfl, rfl, all⟩

/-! ## The end of a decode (R121, R122) -/

theorem requestDecode_of_parsed {g : Gateway} {ex : Execution} {e : AgentEntry} {ops : List Op} (exec : g.exec = some ex)
    (waits : ex.decoded = false) (executing : g.executing = some e) (parsed : parseRequest e.buf.frame.payload = some ops) :
    effect .requestDecode g =
      { g with
        exec := some { ex with
          decoded := true
          tag := e.buf.frame.payload.headD 0
          count := ops.length
          ops := ops } } := by
  show g.requestDecode = _
  simp only [Gateway.requestDecode, exec, executing, waits, parsed, Bool.false_eq_true, if_false]

theorem requestDecode_of_malformed {g : Gateway} {ex : Execution} {e : AgentEntry} (exec : g.exec = some ex)
    (waits : ex.decoded = false) (executing : g.executing = some e) (broken : parseRequest e.buf.frame.payload = none) :
    effect .requestDecode g = (g.malformed ex e.buf.frame.payload).settle := by
  show g.requestDecode = _
  simp only [Gateway.requestDecode, exec, executing, waits, broken, Bool.false_eq_true, if_false]

/-- The end of an execution counts a request that begins, and nothing else (R119, R167). -/
theorem endExecution_counter {i : Nat} (other : i ≠ deviceCounterIndex .agentRequests) (g : Gateway) (ex : Execution)
    (status : RequestStatus) : (g.endExecution ex status).counters.getD i 0 = g.counters.getD i 0 := by
  have turned : (g.turned ex status).counters = g.counters := turned_allBut g ex status .counters (by decide)
  have offered : ((g.turned ex status).offerReply AgentEntry.isExecuting).counters = (g.turned ex status).counters :=
    offerReply_allBut _ _ .counters (by decide)
  rw [endExecution_eq, ← turned, ← offered]
  generalize (g.turned ex status).offerReply AgentEntry.isExecuting = o
  unfold Gateway.beginExecution
  repeat' split
  · rfl
  · rw [Gateway.countDevice, Gateway.counters_bump, getD_set, if_neg fun same => other same.1]
  · rfl

/-- A malformed request counted and reported (R122). -/
def Gateway.brokenRequest (g : Gateway) : Gateway :=
  (g.countDevice .agentMalformed).latch .requestMalformed

theorem malformed_eq (g : Gateway) (ex : Execution) (payload : List Byte) :
    g.malformed ex payload =
      g.brokenRequest.endExecution { ex with tag := payload.headD 0, count := 0, results := [] } .malformed := rfl

/-- Settles O39, by whether the payload is the bytes of 1 to 16 operations. -/
theorem requestDecodeJudges : Obligations.RequestDecodeJudges := by
  intro s ex e exec waits executing payload wellFormed
  refine exec_of_effect (c := .requestDecode) ⟨rfl, fun tag ops formed => ?_, fun broken settled off => ?_⟩
  · have parsed := (parseRequest_eq_some_iff payload ops).mpr ⟨tag, formed⟩
    have first : e.buf.frame.payload.headD 0 = tag := by
      have bytes : e.buf.frame.payload = _ := formed.1
      rw [bytes]
      rfl
    rw [requestDecode_of_parsed exec waits executing parsed, first]
    exact ⟨withExec_allBut _ _, rfl⟩
  · have unread : parseRequest payload = none := by
      by_contra read
      obtain ⟨ops, parsed⟩ := Option.ne_none_iff_exists'.mp read
      obtain ⟨tag, formed⟩ := (parseRequest_eq_some_iff payload ops).mp parsed
      exact broken tag ops formed
    have reports : AllBut [.counters, .monitor] s.gw s.gw.brokenRequest :=
      ((bump_allBut _ _ _).mono (by decide)).trans
        ((latch_of_noticeOff_allBut (g := s.gw.countDevice .agentMalformed) off .requestMalformed).mono (by decide))
    have counted : s.gw.brokenRequest.counters = (s.gw.countDevice .agentMalformed).counters :=
      latch_allBut _ _ .counters (by decide)
    have latched : Latched .requestMalformed s.gw.brokenRequest := latch_latched _ _
    have ports := port_of_allBut reports (by decide) (by decide)
    have still : s.gw.brokenRequest.Settled := settled_of_same (ports .a) (ports .b) settled
    rw [requestDecode_of_malformed exec waits executing unread, malformed_eq]
    generalize s.gw.brokenRequest = h at reports counted latched still ⊢
    have ends := endExecution_allBut h { ex with tag := payload.headD 0, count := 0, results := [] } .malformed
    have stillLatched := (latched_steadyAside .requestMalformed).endExecution
      { ex with tag := payload.headD 0, count := 0, results := [] } .malformed latched
    have counter := endExecution_counter (i := deviceCounterIndex .agentMalformed) (by decide) h
      { ex with tag := payload.headD 0, count := 0, results := [] } .malformed
    have replied : s.gw.QueuesReply e → Replied h e [payload.headD 0, 0x01, 0x00] false
        (h.endExecution { ex with tag := payload.headD 0, count := 0, results := [] } .malformed) := fun queues =>
      endExecution_replied (QueuesReply.of_frame reports (by decide) (by decide) (by decide) queues) still
        { ex with tag := payload.headD 0, count := 0, results := [] } .malformed
    generalize h.endExecution { ex with tag := payload.headD 0, count := 0, results := [] } .malformed = o
      at ends stillLatched counter replied ⊢
    have settles := settle_allBut_replyParts o
    have latchedNow := settle_latched stillLatched
    have counterKept := settle_counter (i := deviceCounterIndex .agentMalformed) (by intro x; cases x <;> decide) o
    have repliedNow : s.gw.QueuesReply e → s.gw.RepliesWith o.settle e [payload.headD 0, 0x01, 0x00] false := fun queues => by
      obtain ⟨-, reply, done, -⟩ := replied queues
      rw [settle_of_settled _ done]
      exact RepliesWith.of_frame reports (by decide) (by decide) (by decide) reply
    generalize o.settle = t at settles latchedNow counterKept repliedNow ⊢
    refine ⟨(reports.mono (by decide)).trans ((ends.mono (by decide)).trans (settles.mono (by decide))), latchedNow, fun full => ?_,
      repliedNow⟩
    rw [counterKept, counter, counted, Gateway.countDevice, Gateway.counters_bump, getD_set, if_pos ⟨rfl, by rw [full]; decide⟩]
    rfl

end Sys2Proof.Machine
end

section
/-! SUPPORT. The store operations that start, report and complete (R137 to R141, R149 to R155, R184). -/

open Sys2Proof

namespace Sys2Proof.Machine

/-! ## The part with another store -/

/-- The part with another store. -/
def Gateway.withStore (g : Gateway) (st : Store) : Gateway := { g with store := st }

theorem withStore_allBut (g : Gateway) (st : Store) : AllBut [.store] g (g.withStore st) :=
  .of_same fun x => by cases x <;> simp [Part.Same, Gateway.withStore]

theorem withStore_settled {g : Gateway} (settled : g.Settled) (st : Store) : (g.withStore st).Settled :=
  settled_of_same (g := g) rfl rfl settled

/-- An operation whose body changes some parts and leaves the selections taken: its whole effect. -/
theorem operation_done {s : State} {g' : Gateway} {ex : Execution} {op : Op} {k : Nat} {status : OpStatus}
    {data : List Byte} {words : Nat} {l : List Part} (succeeds : s.gw.Succeeds ex op) (other : op ≠ .restart)
    (done : s.gw.opBody k op ex = .done status data words g') (more : ex.ops.tail ≠ []) (settled : g'.Settled)
    (frame : AllBut l s.gw g') :
    ∃ t : State, exec (op.command k) s = .next t ∧ t.pending = s.pending ∧ AllBut (.exec :: l) s.gw t.gw ∧
      t.gw = { g' with exec := some (ex.after status data words) } := by
  refine exec_of_effect (c := op.command k) ⟨rfl, ?_, ?_⟩
  · rw [effect_of_done succeeds.1 (access_of_succeeds succeeds) other done more settled]
    exact (frame.mono fun x => List.mem_cons_of_mem _).trans ((withExec_allBut _ _).mono (by simp))
  · exact effect_of_done succeeds.1 (access_of_succeeds succeeds) other done more settled

/-! ## STORE ERASE and STORE WRITE (R140, R152, R154) -/

/-- The store when an operation on its selected page begins (R152, R154). -/
def Store.begun (st : Store) (kind : StoreOp) : Store :=
  { st with
    state := if kind = .erase then .sErasing else .sWriting
    inFlight := some (kind, st.page)
    timer := 0 }

theorem startErase_of_succeeds {g : Gateway} {ex : Execution} (succeeds : g.Succeeds ex .storeErase) :
    g.startErase = .done .ok [] 0 (g.withStore (g.store.begun .erase)).evalStoreBusy := by
  obtain ⟨-, fails⟩ := id succeeds
  unfold Gateway.Fails at fails
  simp only [if_neg (checks_of_succeeds succeeds)] at fails
  have idle : ¬ g.store.busy = true := fun busy => fails .storeInUse (.inl ⟨busy, rfl⟩)
  have page : g.store.page ≠ 0 := fun zero => fails .protectedWord (.inr ⟨by simpa using idle, zero, rfl⟩)
  unfold Gateway.startErase
  rw [if_neg idle, if_neg page]
  rfl

theorem startWrite_of_succeeds {g : Gateway} {ex : Execution} (succeeds : g.Succeeds ex .storeWrite) :
    g.startWrite = .done .ok [] 0 (g.withStore (g.store.begun .write)).evalStoreBusy := by
  obtain ⟨-, fails⟩ := id succeeds
  unfold Gateway.Fails at fails
  simp only [if_neg (checks_of_succeeds succeeds)] at fails
  have idle : ¬ g.store.busy = true := fun busy => fails .storeInUse (.inl ⟨busy, rfl⟩)
  have page : g.store.page ≠ 0 := fun zero => fails .protectedWord (.inr (.inl ⟨by simpa using idle, zero, rfl⟩))
  have erased : ¬ (g.store.pageAt g.store.page).state ≠ .erased := fun other =>
    fails .notErased (.inr (.inr ⟨by simpa using idle, page, other, rfl⟩))
  unfold Gateway.startWrite
  rw [if_neg idle, if_neg page, if_neg erased]
  rfl

/-- The operation that starts a kind of store operation (R140). -/
def StoreOp.starts (kind : StoreOp) : Op := if kind = .erase then .storeErase else .storeWrite

theorem starts_body {g : Gateway} {ex : Execution} {kind : StoreOp} (succeeds : g.Succeeds ex kind.starts) :
    g.opBody 0 kind.starts ex = .done .ok [] 0 (g.withStore (g.store.begun kind)).evalStoreBusy := by
  cases kind with
  | erase => exact startErase_of_succeeds succeeds
  | write => exact startWrite_of_succeeds succeeds

theorem starts_command (kind : StoreOp) :
    kind.starts.command 0 = if kind = .erase then Instr.storeErase else Instr.storeWrite := by
  cases kind <;> rfl

/-- STORE_BUSY takes the level of the store's state, with notices off and nothing else touched (R149). -/
theorem evalStoreBusy_of_noticeOff {g : Gateway} (off : g.general.noticeEnable = false) :
    AllBut [.monitor] g g.evalStoreBusy ∧ g.evalStoreBusy.monitor.history.storeBusy = g.store.busy := by
  have frame : AllBut [.monitor] g g.evalStoreBusy := evalLevel_of_noticeOff off _ _
  have level : LevelOk .storeBusy g.evalStoreBusy := evalStoreBusy_levelOk fun other => absurd rfl other
  have store : g.evalStoreBusy.store = g.store := frame .store (by decide)
  refine ⟨frame, ?_⟩
  rw [← store]
  exact level

/-! ## STORE STATUS (R141, R184) -/

theorem statusStore_of_succeeds {g : Gateway} {ex : Execution} (succeeds : g.Succeeds ex .storeStatus) :
    g.statusStore ex = .done .ok (wordsBytes g.store.statusWords) 0 g := by
  obtain ⟨-, fails⟩ := id succeeds
  unfold Gateway.Fails at fails
  simp only [if_neg (checks_of_succeeds succeeds)] at fails
  have room : ex.Room 8 := by
    by_contra noRoom
    exact fails .replyFull ⟨noRoom, rfl⟩
  exact if_pos ((fits_iff_room ex 8).mpr room)

/-- A high byte beside a low byte, as a word's value. -/
theorem toNat_highLow {high low : Nat} (h : high < 128) (l : low < 256) :
    (atBit high 8 ||| atBit low 0).toNat = 256 * high + low := by
  have small : high * 2 ^ 8 < 2 ^ 16 := by omega
  have low' : low * 2 ^ 0 < 2 ^ 16 := by omega
  simp only [atBit, BitVec.toNat_or, BitVec.toNat_ofNat]
  rw [Nat.mod_eq_of_lt small, Nat.mod_eq_of_lt low', Nat.mul_comm high, Nat.pow_zero, Nat.mul_one,
    ← Nat.two_pow_add_eq_or_of_lt l high]

/-- Settles O50, by the kind of operation that starts and by the words of the status. -/
theorem storeOperationsStart : Obligations.StoreOperationsStart := by
  intro s ex settled more st
  refine ⟨fun kind succeeds off => ?_, fun succeeds page word => ?_⟩
  · have begins : AllBut [.store] s.gw (s.gw.withStore (st.begun kind)) := withStore_allBut _ _
    obtain ⟨busyFrame, busy⟩ := evalStoreBusy_of_noticeOff (g := s.gw.withStore (st.begun kind)) off
    have frame : AllBut [.store, .monitor] s.gw (s.gw.withStore (st.begun kind)).evalStoreBusy :=
      (begins.mono (by decide)).trans (busyFrame.mono (by decide))
    have still : (s.gw.withStore (st.begun kind)).evalStoreBusy.Settled :=
      settled_of_same (busyFrame .portA (by decide)) (busyFrame .portB (by decide)) (withStore_settled settled _)
    have store : (s.gw.withStore (st.begun kind)).evalStoreBusy.store = st.begun kind := busyFrame .store (by decide)
    have rises : (st.begun kind).busy = true := by cases kind <;> rfl
    obtain ⟨t, runs, pending, whole, is⟩ := operation_done succeeds (by cases kind <;> simp)
      (starts_body (kind := kind) succeeds) more still frame
    rw [← starts_command]
    refine ⟨t, runs, pending, whole, ?_, ?_, ?_⟩
    · rw [is]
    · rw [is]
      exact store
    · rw [is]
      exact busy.trans rises
  · obtain ⟨t, runs, pending, whole, is⟩ := operation_done (k := 0) (l := []) succeeds (by simp)
      (statusStore_of_succeeds succeeds) more settled (AllBut.refl _ _)
    refine ⟨t, st.state.code, lastCode st.last, (st.pageAt st.page).state.code, atBit st.page 8 ||| atBit st.word 0, runs,
      pending, whole, by rw [is]; rfl, ?_, fun none => ?_, fun n small => ⟨fun last => ?_, fun last => ?_⟩, ?_, ?_⟩
    · cases st.state <;> rfl
    · rw [none]
      rfl
    · rw [last]
      exact toNat_highLow (by omega) (by omega)
    · rw [last]
      exact toNat_highLow (by omega) (by omega)
    · cases (st.pageAt st.page).state <;> rfl
    · exact toNat_highLow (by omega) (by omega)

/-! ## Completions (R153, R155) -/

/-- The store after an operation of a kind on its selected page completes (R153, R155). -/
def Store.finished (st : Store) (kind : StoreOp) : Store :=
  if kind = .erase then st.erased st.page else st.written st.page

theorem finished_pageAt (st : Store) (kind : StoreOp) (n : Nat) (inside : n < st.pages.length) :
    (st.finished kind).pageAt n =
      if n = st.page then if kind = .erase then ⟨.erased, List.replicate 16 0⟩ else ⟨.written, st.programmed⟩
      else st.pageAt n := by
  cases kind with
  | erase =>
    refine (getD_set _ _ _ _ _).trans ?_
    by_cases same : n = st.page
    · rw [if_pos ⟨same, by rwa [← same]⟩, if_pos same, if_pos rfl]
    · rw [if_neg fun both => same both.1, if_neg same]
      rfl
  | write =>
    refine (getD_set _ _ _ _ _).trans ?_
    by_cases same : n = st.page
    · rw [if_pos ⟨same, by rwa [← same]⟩, if_pos same]
      rfl
    · rw [if_neg fun both => same both.1, if_neg same]
      rfl

/-- What a store operation that is due leaves: the store it finished, STORE_DONE and the fall of STORE_BUSY (R153,
R155). -/
theorem completed_outcome {g : Gateway} (settled : g.Settled) (off : g.general.noticeEnable = false) {st : Store}
    (idle : st.busy = false) :
    AllBut [.store, .monitor] g (g.completed st) ∧ Latched .storeDone (g.completed st) ∧
      (g.completed st).monitor.history.storeBusy = false ∧ (g.completed st).store = st := by
  have latches : AllBut [.monitor] (g.withStore st) ((g.withStore st).latch .storeDone) :=
    latch_of_noticeOff_allBut (g := g.withStore st) off .storeDone
  have general : ((g.withStore st).latch .storeDone).general = g.general := latches .general (by decide)
  obtain ⟨evaluates, busy⟩ := evalStoreBusy_of_noticeOff (g := (g.withStore st).latch .storeDone) (by rw [general]; exact off)
  have whole := latches.trans evaluates
  have still : ((g.withStore st).latch .storeDone).evalStoreBusy.Settled :=
    settled_of_same (whole .portA (by decide)) (whole .portB (by decide)) (withStore_settled settled st)
  have latched : Latched .storeDone ((g.withStore st).latch .storeDone).evalStoreBusy :=
    Latched.alertEval ((latch_latched (g.withStore st) .storeDone).handLevel _ _)
  have stored : ((g.withStore st).latch .storeDone).store = st := latches .store (by decide)
  have is : g.completed st = ((g.withStore st).latch .storeDone).evalStoreBusy := settle_of_settled _ still
  rw [is]
  refine ⟨((withStore_allBut g st).mono (by decide)).trans (whole.mono (by decide)), latched, ?_, whole .store (by decide)⟩
  rw [busy, stored]
  exact idle

/-- The operation of a kind is due on its tick (R153, R155). -/
def Store.due (st : Store) (kind : StoreOp) : Prop :=
  (kind = .erase ∧ st.state = .sErasing ∧ 20 ≤ st.timer) ∨ (kind = .write ∧ st.state = .sWriting ∧ 12 ≤ st.timer)

/-- The command that completes a kind of store operation. -/
def StoreOp.completion (kind : StoreOp) : Instr := if kind = .erase then .storeEraseComplete else .storeWriteComplete

theorem completion_of_due {g : Gateway} {kind : StoreOp} (due : g.store.due kind) :
    effect kind.completion g = g.completed (g.store.finished kind) := by
  rcases due with ⟨rfl, erasing⟩ | ⟨rfl, writing⟩
  · exact if_pos erasing
  · exact if_pos writing

theorem completion_of_notDue {g : Gateway} {kind : StoreOp} (early : ¬ g.store.due kind) :
    effect kind.completion g = g := by
  cases kind with
  | erase => exact if_neg fun erasing => early (.inl ⟨rfl, erasing⟩)
  | write => exact if_neg fun writing => early (.inr ⟨rfl, writing⟩)

/-- Settles O51, by whether the operation is due. -/
theorem storeCompletions : Obligations.StoreCompletions := by
  intro s kind settled off st due
  refine exec_of_effect (c := kind.completion) ⟨rfl, completion_of_notDue, fun due => ?_⟩
  have idle : (st.finished kind).busy = false := by cases kind <;> rfl
  obtain ⟨frame, latched, busy, store⟩ := completed_outcome settled off idle
  rw [completion_of_due due]
  generalize s.gw.completed (s.gw.store.finished kind) = t at frame latched busy store ⊢
  refine ⟨frame, latched, busy, ?_, fun n inside other => ?_, fun inside => ⟨fun erase => ?_, fun write => ?_⟩⟩
  · dsimp only
    rw [store]
    cases kind <;> rfl
  · dsimp only
    rw [store, finished_pageAt st kind n inside, if_neg other]
  · dsimp only
    rw [store, finished_pageAt st kind _ inside, if_pos rfl, if_pos erase]
  · dsimp only
    rw [store, finished_pageAt st kind _ inside, if_pos rfl, if_neg (by rw [write]; exact nofun)]
    rfl

end Sys2Proof.Machine
end

section
/-! SUPPORT. Operations that read words one at a time (R120, R138), and the page buffer (R137 to R139, R151, R157). -/

open Sys2Proof

namespace Sys2Proof.Machine

/-! ## Words taken one at a time (R120, entry 5) -/

/-- The words taken once up to `k` more of `n` are (R120). -/
def Execution.takes (ex : Execution) (n k : Nat) (get : Nat → Word) : List Word :=
  ex.taken ++ (List.range (min k (n - ex.taken.length))).map fun i => get (ex.taken.length + i)

theorem takes_length (ex : Execution) (n k : Nat) (get : Nat → Word) :
    (ex.takes n k get).length = ex.taken.length + min k (n - ex.taken.length) := by
  simp [Execution.takes]

theorem readWords_goesOn {ex : Execution} {n k : Nat} (room : ex.Room (2 * n)) (more : ex.taken.length + k < n)
    (get : Nat → Word) (status : OpStatus) (part whole : Nat → Gateway) :
    ex.readWords n k get status part whole =
      .reading (ex.takes n k get) (part (min k (n - ex.taken.length))) := by
  have short : (ex.takes n k get).length < n := by
    rw [takes_length]
    omega
  unfold Execution.readWords
  rw [if_pos ((fits_iff_room ex _).mpr room)]
  exact if_pos short

theorem readWords_isDone {ex : Execution} {n k : Nat} (room : ex.Room (2 * n)) (last : n ≤ ex.taken.length + k)
    (get : Nat → Word) (status : OpStatus) (part whole : Nat → Gateway) :
    ex.readWords n k get status part whole =
      .done status (wordsBytes (ex.takes n k get)) n (whole (min k (n - ex.taken.length))) := by
  have all : ¬ (ex.takes n k get).length < n := by
    rw [takes_length]
    omega
  unfold Execution.readWords
  rw [if_pos ((fits_iff_room ex _).mpr room)]
  exact if_neg all

/-- A reading operation with words left to take: the part as its body has it, and the words taken so far (R120). -/
theorem effect_of_reading {g g' : Gateway} {ex : Execution} {op : Op} {k : Nat} {taken : List Word}
    (succeeds : g.Succeeds ex op) (other : op ≠ .restart) (reads : g.opBody k op ex = .reading taken g') :
    effect (op.command k) g = { g' with exec := some { ex with taken := taken } } := by
  obtain ⟨exec, -⟩ := succeeds.1
  rw [effect_command succeeds.1 other]
  exact runOp_of_reading g g' _ _ ex taken exec (access_of_succeeds succeeds) reads

/-! ## STORE SELECT (R137) -/

theorem selectStore_of_succeeds {g : Gateway} {ex : Execution} {page word : Byte}
    (succeeds : g.Succeeds ex (.storeSelect page word)) :
    g.selectStore page word = .done .ok [] 0 (g.withStore (g.store.select page.toNat word.toNat)) := by
  obtain ⟨-, fails⟩ := id succeeds
  unfold Gateway.Fails at fails
  simp only [if_neg (checks_of_succeeds succeeds)] at fails
  have idle : ¬ g.store.busy = true := fun busy => fails .storeInUse (.inl ⟨busy, rfl⟩)
  have inside : ¬ (63 < page.toNat ∨ 15 < word.toNat) := fun outside =>
    fails .badOperand (.inr ⟨by simpa using idle, outside, rfl⟩)
  unfold Gateway.selectStore
  rw [if_neg idle, if_neg inside]
  rfl

theorem select_eq (st : Store) (page word : Nat) :
    st.select page word =
      { st with
        page := page
        word := word
        buffer := if page = st.page then st.buffer else List.replicate 16 ⟨0, false⟩ } := by
  unfold Store.select
  split
  · next same => subst same; rfl
  · rfl

/-! ## STORE READ (R138) -/

theorem Page.read_eq (page : Page) (w : Nat) :
    page.read w = if page.state = .written then page.words.getD w 0 else 0 := by
  unfold Page.read
  cases page.state <;> rfl

/-- The checks of a STORE READ that succeeds (R138). -/
theorem storeRead_checks {g : Gateway} {ex : Execution} {n : Nat} (succeeds : g.Succeeds ex (.storeRead n)) :
    ¬ (n = 0 ∨ 16 < n) ∧ ¬ g.store.busy = true ∧ ex.Room (2 * g.storeTotal ex n) := by
  obtain ⟨-, fails⟩ := id succeeds
  unfold Gateway.Fails at fails
  simp only [if_neg (checks_of_succeeds succeeds)] at fails
  have count : 1 ≤ n ∧ n ≤ 16 := by
    by_contra bad
    exact fails .badOperand (.inl ⟨bad, rfl⟩)
  obtain ⟨least, most⟩ := count
  have idle : ¬ g.store.busy = true := fun busy => fails .storeInUse (.inr (.inl ⟨least, most, busy, rfl⟩))
  refine ⟨by omega, idle, ?_⟩
  by_contra noRoom
  exact fails .replyFull (.inr (.inr ⟨least, most, by simpa using idle, noRoom, rfl⟩))

/-- The word of the selected page that a STORE READ takes as its `i`-th (R138). -/
def Gateway.storeWord (g : Gateway) (ex : Execution) (i : Nat) : Word :=
  (g.store.pageAt g.store.page).read (g.store.word + (i - ex.taken.length))

theorem readStore_of_succeeds {g : Gateway} {ex : Execution} {n : Nat} (succeeds : g.Succeeds ex (.storeRead n)) (k : Nat) :
    g.readStore n k ex = ex.readWords (g.storeTotal ex n) k (g.storeWord ex)
      (if g.storeTotal ex n < n then .short else .ok) (fun m => g.withStore (g.store.advance m))
      (fun m => g.withStore (g.store.advance m)) := by
  obtain ⟨count, idle, -⟩ := storeRead_checks succeeds
  unfold Gateway.readStore
  rw [if_neg count, if_neg idle]
  rfl

theorem takes_storeWord (g : Gateway) (ex : Execution) (n k : Nat) :
    ex.takes n k (g.storeWord ex) =
      ex.taken ++ (List.range (min k (n - ex.taken.length))).map fun i =>
        if (g.store.pageAt g.store.page).state = .written then
          (g.store.pageAt g.store.page).words.getD (g.store.word + i) 0 else 0 := by
  simp only [Execution.takes, Gateway.storeWord, Page.read_eq, Nat.add_sub_cancel_left]

/-! ## STORE FILL (R138) -/

theorem placeWords_getD (buffer : List BufferWord) (w : Nat) (vs : List Word) (i : Nat) (inside : i < buffer.length) :
    (placeWords buffer w vs).getD i ⟨0, false⟩ =
      if w ≤ i ∧ i < w + vs.length then ⟨vs.getD (i - w) 0, true⟩ else buffer.getD i ⟨0, false⟩ := by
  induction vs generalizing buffer w with
  | nil => exact (if_neg (by simp only [List.length_nil]; omega)).symm
  | cons v rest ih =>
    rw [placeWords, ih _ _ (by simpa using inside), getD_set, List.length_cons]
    by_cases here : i = w
    · subst here
      rw [if_neg (by omega), if_pos ⟨rfl, inside⟩, if_pos (by omega), Nat.sub_self]
      rfl
    · rw [if_neg (c := i = w ∧ w < buffer.length) fun both => here both.1]
      by_cases after : w + 1 ≤ i ∧ i < w + 1 + rest.length
      · obtain ⟨j, index⟩ : ∃ j, i = w + 1 + j := ⟨i - (w + 1), by omega⟩
        rw [if_pos after, if_pos (by omega), index, show w + 1 + j - w = j + 1 by omega, Nat.add_sub_cancel_left]
        rfl
      · rw [if_neg after, if_neg (by omega)]

theorem fillStore_of_succeeds {g : Gateway} {ex : Execution} {ws : List Word} (succeeds : g.Succeeds ex (.storeFill ws)) :
    g.fillStore ws =
      .done (if min ws.length (16 - g.store.word) < ws.length then .short else .ok) [] (min ws.length (16 - g.store.word))
        (g.withStore { g.store with
          word := min 15 (g.store.word + min ws.length (16 - g.store.word))
          buffer := placeWords g.store.buffer g.store.word (ws.take (16 - g.store.word)) }) := by
  obtain ⟨-, fails⟩ := id succeeds
  unfold Gateway.Fails at fails
  simp only [if_neg (checks_of_succeeds succeeds)] at fails
  have count : 1 ≤ ws.length ∧ ws.length ≤ 16 := by
    by_contra bad
    exact fails .badOperand (.inl ⟨bad, rfl⟩)
  obtain ⟨least, most⟩ := count
  have idle : ¬ g.store.busy = true := fun busy => fails .storeInUse (.inr ⟨least, most, busy, rfl⟩)
  have placed : (ws.take (16 - g.store.word)).length = min ws.length (16 - g.store.word) := by
    rw [List.length_take, Nat.min_comm]
  unfold Gateway.fillStore
  rw [if_neg (by omega), if_neg idle]
  dsimp only
  rw [placed]
  rfl

/-! ## STORE STAGE (R139, R157) -/

/-- The page buffer filled from the live tables (R139). -/
def Gateway.pageImage (g : Gateway) : List BufferWord :=
  (List.range 16).map fun w => ⟨g.imageWord g.store.page w, true⟩

theorem stageStore_of_succeeds {g : Gateway} {ex : Execution} (succeeds : g.Succeeds ex .storeStage) :
    g.stageStore = .done .ok [] 16 (g.withStore { g.store with word := 15, buffer := g.pageImage }) := by
  obtain ⟨-, fails⟩ := id succeeds
  unfold Gateway.Fails at fails
  simp only [if_neg (checks_of_succeeds succeeds)] at fails
  have idle : ¬ g.store.busy = true := fun busy => fails .storeInUse (.inl ⟨busy, rfl⟩)
  have page : ¬ (g.store.page = 0 ∨ 56 ≤ g.store.page) := fun outside =>
    fails .badOperand (.inr ⟨by simpa using idle, outside, rfl⟩)
  unfold Gateway.stageStore
  rw [if_neg idle, if_neg page]
  rfl

theorem imageWord_eq (g : Gateway) (n i : Nat) :
    g.imageWord n i =
      if n = 1 then g.tableWord .port i
      else if n = 2 then (if i < 11 then g.general.get i else 0)
      else if n = 3 then (if i < 8 then g.group.getD i 0 else 0)
      else if n ≤ 7 then (g.meter (4 * (n - 4) + i / 4)).get (i % 4)
      else g.route.getD (16 * (n - 8) + i) 0 := by
  have meter : g.tableWord .meter (16 * (n - 4) + i) = (g.meter (4 * (n - 4) + i / 4)).get (i % 4) := by
    show (g.meter ((16 * (n - 4) + i) / 4)).get ((16 * (n - 4) + i) % 4) = _
    rw [show (16 * (n - 4) + i) / 4 = 4 * (n - 4) + i / 4 by omega, show (16 * (n - 4) + i) % 4 = i % 4 by omega]
  unfold Gateway.imageWord
  rw [meter]
  rfl

theorem pageImage_getD (g : Gateway) {i : Nat} (inside : i < 16) :
    g.pageImage.getD i ⟨0, false⟩ = ⟨g.imageWord g.store.page i, true⟩ := by
  simp [Gateway.pageImage, List.getD_eq_getElem?_getD, inside]

/-- Settles O49, an operation of the page buffer at a time. -/
theorem storeBufferOperations : Obligations.StoreBufferOperations := by
  intro s ex settled more st
  refine ⟨fun page word succeeds => ?_, fun n k succeeds one left address => ?_,
    fun ws i succeeds address size inside => ?_, fun i succeeds inside => ?_⟩
  · obtain ⟨t, runs, pending, frame, is⟩ := operation_done (k := 0) succeeds (by simp) (selectStore_of_succeeds succeeds)
      more (withStore_settled settled _) (withStore_allBut _ _)
    refine ⟨t, runs, pending, frame, by rw [is], ?_⟩
    rw [is]
    exact select_eq _ _ _
  · intro total m page taken
    obtain ⟨-, -, room⟩ := storeRead_checks succeeds
    have takes : ex.takes total k (s.gw.storeWord ex) = taken := takes_storeWord _ _ _ _
    have body := readStore_of_succeeds succeeds k
    have moved := withStore_allBut s.gw (st.advance m)
    by_cases goesOn : ex.taken.length + k < total
    · rw [readWords_goesOn room goesOn, takes] at body
      have reads := effect_of_reading succeeds (by simp) body
      refine exec_of_effect (c := .storeRead k) ⟨rfl, ?_⟩
      rw [show Instr.storeRead k = Op.command k (.storeRead n) from rfl, reads]
      exact ⟨(moved.mono (by decide)).trans ((withExec_allBut _ _).mono (by decide)), rfl, fun _ => rfl,
        fun enough => absurd enough (by omega)⟩
    · rw [readWords_isDone room (by omega), takes] at body
      obtain ⟨t, runs, pending, frame, is⟩ := operation_done succeeds (by simp) body more (withStore_settled settled _) moved
      exact ⟨t, runs, pending, frame, by rw [is]; rfl, fun short => absurd short goesOn, fun _ => by rw [is]⟩
  · intro m
    have placed : (ws.take (16 - st.word)).length = m := by
      rw [List.length_take, Nat.min_comm]
    obtain ⟨t, runs, pending, frame, is⟩ := operation_done (k := 0) succeeds (by simp) (fillStore_of_succeeds succeeds)
      more (withStore_settled settled _) (withStore_allBut _ _)
    refine ⟨t, runs, pending, frame, by rw [is], by rw [is]; rfl, ?_⟩
    rw [is]
    refine (placeWords_getD _ _ _ _ (by rw [size]; exact inside)).trans ?_
    rw [placed]
    by_cases range : st.word ≤ i ∧ i < st.word + m
    · have early : i - st.word < 16 - st.word := by omega
      rw [if_pos range, if_pos range, List.getD_eq_getElem?_getD, List.getElem?_take_of_lt early,
        ← List.getD_eq_getElem?_getD]
    · rw [if_neg range, if_neg range]
  · obtain ⟨t, runs, pending, frame, is⟩ := operation_done (k := 0) succeeds (by simp) (stageStore_of_succeeds succeeds)
      more (withStore_settled settled _) (withStore_allBut _ _)
    refine ⟨t, runs, pending, frame, by rw [is], by rw [is]; rfl, ?_⟩
    rw [is]
    refine (pageImage_getD s.gw inside).trans ?_
    rw [imageWord_eq]

end Sys2Proof.Machine
end

section
/-! SUPPORT. The words that reading operations give: IDENT, READ, COUNTERS and EVENTS READ (R128, R131, R133, R134, R185,
R189). -/

open Sys2Proof

namespace Sys2Proof.Machine

/-! ## Words that are computed (R44, R131, R134, R185, R189) -/

theorem identWords_eq (g : Gateway) :
    (List.range 8).map g.identWord =
      [0x3A15, 0x4120, 0x0002, g.startCause.code] ++ (List.range 4).map (g.store.pageAt 0).read := rfl

/-- The bits of the level word, from its five levels (R134, R189). -/
theorem levelBits_eq : ∀ up1 up2 low captured busy : Bool,
    (List.range 16).map (flagBit up1 0 ||| flagBit up2 1 ||| flagBit low 2 ||| flagBit captured 3 ||| flagBit busy 4).getLsbD =
      [up1, up2, low, captured, busy] ++ List.replicate 11 false := by
  decide

theorem busy_eq_decide (st : Store) : (st.state != .sIdle) = decide (st.state ≠ .sIdle) := by
  cases st.state <;> rfl

theorem levelWord_bits (g : Gateway) :
    (List.range 16).map (g.eventWord 5).getLsbD =
      [g.portA.linkUp, g.portB.linkUp, decide (g.free ≤ g.general.poolMark), !g.capture.isEmpty,
        decide (g.store.state ≠ .sIdle)] ++ List.replicate 11 false := by
  rw [← busy_eq_decide]
  exact levelBits_eq _ _ _ _ _

theorem field_or (v w : Word) (low n : Nat) : field (v ||| w) low n = field v low n ||| field w low n := by
  simp only [field_eq_extractLsb', BitVec.extractLsb'_or, BitVec.toNat_or]

/-- The attempt count of the status view reaches its low four bits only (R44). -/
theorem attemptBits : ∀ n : Fin 16,
    field (atBit n 0) 0 4 = n ∧ field (atBit n 0) 4 4 = 0 ∧ field (atBit n 0) 9 2 = 0 ∧ field (atBit n 0) 14 2 = 0 ∧
      (atBit n 0).getLsbD 8 = false ∧ (atBit n 0).getLsbD 11 = false ∧ (atBit n 0).getLsbD 12 = false ∧
      (atBit n 0).getLsbD 13 = false := by
  decide

/-- The slot's code in the status view (R44). -/
def TxSlot.code : TxSlot → Nat
  | .empty => 0
  | .pool _ => 1
  | .pause _ => 2

/-- A port's substate in the status view (R44). -/
def Port.stateCode (q : Port) : Nat := if q.state = .active then 2 else if q.state = .linkDown then 1 else 0

/-- The status view above the attempt count, from what it shows (R44, R185). -/
def statusHigh (state slot : Fin 3) (up waits asks holds : Bool) : Word :=
  atBit state 14 ||| flagBit up 13 ||| flagBit waits 12 ||| flagBit asks 11 ||| atBit slot 9 ||| flagBit holds 8

theorem statusHigh_bits : ∀ (state slot : Fin 3) (up waits asks holds : Bool),
    field (statusHigh state slot up waits asks holds) 14 2 = state ∧
      (statusHigh state slot up waits asks holds).getLsbD 13 = up ∧
      (statusHigh state slot up waits asks holds).getLsbD 12 = waits ∧
      (statusHigh state slot up waits asks holds).getLsbD 11 = asks ∧
      field (statusHigh state slot up waits asks holds) 9 2 = slot ∧
      (statusHigh state slot up waits asks holds).getLsbD 8 = holds ∧
      field (statusHigh state slot up waits asks holds) 4 4 = 0 ∧
      field (statusHigh state slot up waits asks holds) 0 4 = 0 := by
  decide

theorem TxSlot.code_lt (s : TxSlot) : s.code < 3 := by cases s <;> simp [TxSlot.code]

theorem Port.stateCode_lt (q : Port) : q.stateCode < 3 := by
  unfold Port.stateCode
  split
  · decide
  · split <;> decide

theorem statusWord_eq (q : Port) :
    q.statusWord =
      statusHigh ⟨q.stateCode, q.stateCode_lt⟩ ⟨q.slot.code, q.slot.code_lt⟩ q.linkUp (decide (q.pause ≠ .running))
          q.pendingPause q.isHolding |||
        atBit (q.attempts % 16) 0 := by
  have waits : (q.pause != .running) = decide (q.pause ≠ .running) := by cases q.pause <;> rfl
  unfold Port.statusWord statusHigh Port.stateCode
  rw [waits]
  dsimp only
  cases q.state <;> cases q.slot <;> rfl

theorem statusWord_fields (q : Port) :
    field q.statusWord 14 2 = q.stateCode ∧ q.statusWord.getLsbD 13 = q.linkUp ∧
      q.statusWord.getLsbD 12 = decide (q.pause ≠ .running) ∧ q.statusWord.getLsbD 11 = q.pendingPause ∧
      field q.statusWord 9 2 = q.slot.code ∧ q.statusWord.getLsbD 8 = q.isHolding ∧ field q.statusWord 4 4 = 0 ∧
      (q.attempts ≤ 15 → field q.statusWord 0 4 = q.attempts) := by
  obtain ⟨s14, s13, s12, s11, s9, s8, s4, s0⟩ := statusHigh_bits ⟨q.stateCode, q.stateCode_lt⟩ ⟨q.slot.code, q.slot.code_lt⟩
    q.linkUp (decide (q.pause ≠ .running)) q.pendingPause q.isHolding
  obtain ⟨a0, a4, a9, a14, a8, a11, a12, a13⟩ := attemptBits ⟨q.attempts % 16, Nat.mod_lt _ (by decide)⟩
  rw [statusWord_eq]
  generalize statusHigh _ _ _ _ _ _ = high at s14 s13 s12 s11 s9 s8 s4 s0 ⊢
  dsimp only at a0 a4 a9 a14 a8 a11 a12 a13
  simp only [field_or, BitVec.getLsbD_or, s14, s13, s12, s11, s9, s8, s4, s0, a0, a4, a9, a14, a8, a11, a12, a13,
    Bool.or_false, Nat.or_zero, Nat.zero_or, true_and]
  omega

theorem portWord_eq (g : Gateway) (p : PortId) {j : Nat} (setting : j < 7) :
    g.tableWord .port ((if p = .a then 0 else 8) + j) = (g.port p).words.get j := by
  cases p <;> interval_cases j <;> rfl

theorem portView_eq (g : Gateway) (p : PortId) : g.tableWord .port (if p = .a then 7 else 15) = (g.port p).statusWord := by
  cases p <;> rfl

/-! ## What a reading operation takes (R123, R125, R128) -/

/-- A reading operation gives `n` words, and `whole` is the part once it has given them. -/
structure Reads (g : Gateway) (ex : Execution) (op : Op) (n : Nat) (word : Nat → Word) (whole : Gateway) : Prop where
  other : op ≠ .restart
  room : ex.Room (2 * n)
  body : ∀ k, g.opBody k op ex = ex.readWords n k word .ok (fun _ => g) (fun _ => whole)

theorem ident_reads {g : Gateway} {ex : Execution} (succeeds : g.Succeeds ex .ident) :
    Reads g ex .ident 8 g.identWord g where
  other := nofun
  room := by
    by_contra noRoom
    refine succeeds.2 .replyFull ?_
    unfold Gateway.Fails
    rw [if_neg (checks_of_succeeds succeeds)]
    exact ⟨noRoom, rfl⟩
  body _ := rfl

theorem eventsRead_reads {g : Gateway} {ex : Execution} (succeeds : g.Succeeds ex .eventsRead) :
    Reads g ex .eventsRead 6 g.eventWord g where
  other := nofun
  room := by
    by_contra noRoom
    refine succeeds.2 .replyFull ?_
    unfold Gateway.Fails
    rw [if_neg (checks_of_succeeds succeeds)]
    exact ⟨noRoom, rfl⟩
  body _ := rfl

theorem read_reads {g : Gateway} {ex : Execution} {n : Nat} (succeeds : g.Succeeds ex (.read n)) :
    Reads g ex (.read n) n (fun j => g.tableWord g.windowTable ((g.windowIndex + j) % g.windowTable.size))
      (g.moveWindow n) := by
  obtain ⟨-, fails⟩ := id succeeds
  unfold Gateway.Fails at fails
  simp only [if_neg (checks_of_succeeds succeeds)] at fails
  have count : 1 ≤ n ∧ n ≤ 32 := by
    by_contra bad
    exact fails .badOperand (.inl ⟨bad, rfl⟩)
  have room : ex.Room (2 * n) := by
    by_contra noRoom
    exact fails .replyFull (.inr ⟨count.1, count.2, noRoom, rfl⟩)
  exact ⟨nofun, room, fun _ => if_pos count⟩

theorem counters_reads {g : Gateway} {ex : Execution} {block : Byte} (succeeds : g.Succeeds ex (.counters block)) :
    Reads g ex (.counters block) (if block.toNat ≤ 1 then 14 else if block = 2 then 4 else 16)
      (fun j => g.counters.getD ((if block = 0 then 0 else if block = 1 then 14 else if block = 2 then 28 else 32) + j) 0)
      g := by
  obtain ⟨-, fails⟩ := id succeeds
  unfold Gateway.Fails at fails
  simp only [if_neg (checks_of_succeeds succeeds)] at fails
  have small : block.toNat ≤ 3 := by
    by_contra bad
    exact fails .badOperand (.inl ⟨by omega, rfl⟩)
  have room : ex.Room (2 * blockSize block.toNat) := by
    by_contra noRoom
    exact fails .replyFull (.inr ⟨small, noRoom, rfl⟩)
  have named : block = 0 ∨ block = 1 ∨ block = 2 ∨ block = 3 := by bv_omega
  have size : (if block.toNat ≤ 1 then 14 else if block = 2 then 4 else 16) = blockSize block.toNat := by
    rcases named with rfl | rfl | rfl | rfl <;> rfl
  have base : (if block = 0 then 0 else if block = 1 then 14 else if block = 2 then 28 else 32) = blockBase block.toNat := by
    rcases named with rfl | rfl | rfl | rfl <;> rfl
  rw [size, base]
  exact ⟨nofun, room, fun _ => if_pos small⟩

/-- Settles O41, by whether the operation is done. -/
theorem readingOperationsTakeWords : Obligations.ReadingOperationsTakeWords := by
  intro s ex op k n word succeeds settled one left kinds taken page
  obtain ⟨whole, reads, kept, moves⟩ : ∃ whole, Reads s.gw ex op n word whole ∧ (op ≠ .read n → whole = s.gw) ∧
      (op = .read n → whole = s.gw.moveWindow n) := by
    rcases kinds with ⟨rfl, rfl, rfl⟩ | ⟨rfl, rfl⟩ | ⟨block, rfl, rfl, rfl⟩ | ⟨rfl, rfl, rfl⟩
    · exact ⟨_, ident_reads succeeds, fun _ => rfl, nofun⟩
    · exact ⟨_, read_reads succeeds, fun other => absurd rfl other, fun _ => rfl⟩
    · exact ⟨_, counters_reads succeeds, fun _ => rfl, nofun⟩
    · exact ⟨_, eventsRead_reads succeeds, fun _ => rfl, nofun⟩
  refine ⟨?_, rfl, levelWord_bits s.gw, fun _ _ => rfl, fun p => ⟨fun j => portWord_eq s.gw p, ?_⟩, ?_⟩
  · rw [identWords_eq]
    simp only [funext (Page.read_eq _)]
    generalize s.gw.startCause = cause
    cases cause <;> rfl
  · rw [portView_eq]
    obtain ⟨state, up, waits, asks, slot, holds, spare, attempts⟩ := statusWord_fields (s.gw.port p)
    refine ⟨state, up, waits, asks, slot.trans ?_, holds, spare, attempts⟩
    generalize (s.gw.port p).slot = slot
    cases slot <;> rfl
  · by_cases goesOn : ex.taken.length + k < n
    · refine exec_of_effect (c := op.command k) ⟨rfl, ?_⟩
      rw [effect_of_reading succeeds reads.other ((reads.body k).trans (readWords_goesOn reads.room goesOn _ _ _ _))]
      exact ⟨fun _ => ⟨withExec_allBut _ _, rfl⟩, fun last => absurd last (by omega)⟩
    · have last : n ≤ ex.taken.length + k := by omega
      have still : whole.Settled := by
        by_cases reading : op = .read n
        · rw [moves reading]
          exact settled_of_same (g := s.gw) rfl rfl settled
        · rw [kept reading]
          exact settled
      have ends : ex.ops.tail ≠ [] → effect (op.command k) s.gw = { whole with exec := some (ex.after .ok (wordsBytes taken) n) } :=
        fun more => effect_of_done succeeds.1 (access_of_succeeds succeeds) reads.other
          ((reads.body k).trans (readWords_isDone reads.room last _ _ _ _)) more still
      refine exec_of_effect (c := op.command k) ⟨rfl, fun short => absurd short goesOn, fun _ more => ?_⟩
      rw [ends more]
      refine ⟨?_, rfl, fun other => ?_, fun reading => ?_⟩
      · have length : taken.length = _ := takes_length ex n k word
        omega
      · rw [kept other]
        exact withExec_allBut _ _
      · rw [moves reading]
        exact ⟨((moveWindow_allBut _ _).mono (by decide)).trans ((withExec_allBut _ _).mono (by decide)), rfl, rfl⟩

end Sys2Proof.Machine
end

section
/-! SUPPORT. CAPTURE TAKE (R49, R87, R125, R135, R136, R184). -/

open Sys2Proof

namespace Sys2Proof.Machine

/-! ## A captured frame that leaves (R49, R136) -/

/-- The part without its oldest captured frame, the buffer returned (R49, R136). -/
def Gateway.captureReturned (g : Gateway) : Gateway := ({ g with capture := g.capture.tail }).giveBack 1

/-- What the leaving of the oldest captured frame does: its buffer returns, every hold is prompted, the frame is counted,
CAPTURE_PENDING follows the queue, and no selection meets an old frame (R49, R87, R136). -/
structure CaptureDropped (g t : Gateway) : Prop where
  frame : AllBut [.portA, .portB, .free, .counters, .capture, .exec, .monitor] g t
  capture : t.capture = g.capture.tail
  free : t.free = g.free + 1
  counted : Counted (deviceCounterIndex .captureTaken) g t
  pending : t.monitor.history.capturePending = !g.capture.tail.isEmpty
  prompts : ∀ x timer retest r, (g.port x).role = .holding timer retest → (g.port x).record = some r →
    (t.port x).role = .holding timer true

theorem captureReturned_allBut (g : Gateway) : AllBut [.portA, .portB, .free, .capture] g g.captureReturned := by
  have drops : AllBut [.capture] g { g with capture := g.capture.tail } :=
    .of_same fun x => by cases x <;> simp [Part.Same]
  exact (drops.mono (by decide)).trans ((giveBack_allBut _ 1).mono (by decide))

theorem captureReturned_port (g : Gateway) (x : PortId) :
    g.captureReturned.port x = Port.promptIf (fun _ => true) (g.port x) := by
  rw [Gateway.captureReturned, Gateway.giveBack, Gateway.promptReturn, modBoth_port]
  cases x <;> rfl

theorem captureReturned_holds {g : Gateway} {x : PortId} {timer : Nat} {retest : Bool} {r : DecisionRecord}
    (role : (g.port x).role = .holding timer retest) (record : (g.port x).record = some r) :
    (g.captureReturned.port x).role = .holding timer true := by
  rw [captureReturned_port, promptIf_of_holding role record, Bool.or_true]

theorem promptCapture_port (g : Gateway) (x : PortId) :
    g.promptCapture.port x = Port.promptIf (fun r => r.action = some .divert) (g.port x) := by
  rw [Gateway.promptCapture, modBoth_port]

theorem promptCapture_serves (g : Gateway) : g.Serves g.promptCapture := modBoth_serves g (promptIf_serves _)

theorem dropCapture_eq (g : Gateway) :
    g.dropCapture = (((g.captureReturned.evalPool).countDevice .captureTaken).evalCapture).promptCapture := rfl

theorem dropCapture_outcome {g : Gateway} (settled : g.Settled) (off : g.general.noticeEnable = false) :
    CaptureDropped g g.dropCapture ∧ g.dropCapture.NothingAged := by
  have returns := captureReturned_allBut g
  have young : g.captureReturned.NothingAged := fun x => by
    rw [captureReturned_port]
    exact promptIf_nothingAged (settled.nothingAged x)
  have holds := fun x timer retest r => captureReturned_holds (g := g) (x := x) (timer := timer) (retest := retest) (r := r)
  have free : g.captureReturned.free = g.free + 1 := giveBack_free _ _
  have capture : g.captureReturned.capture = g.capture.tail := giveBack_allBut _ 1 .capture (by decide)
  rw [dropCapture_eq]
  generalize g.captureReturned = h at returns young holds free capture ⊢
  have general : h.general = g.general := returns .general (by decide)
  obtain ⟨pool, -⟩ := evalPool_of_noticeOff (g := h) (by rw [general]; exact off)
  have counts : AllBut [.counters] h.evalPool (h.evalPool.countDevice .captureTaken) := bump_allBut _ _ _
  have before : AllBut [.portA, .portB, .monitor, .counters] h (h.evalPool.countDevice .captureTaken) :=
    (pool.mono (by decide)).trans (counts.mono (by decide))
  have generals : (h.evalPool.countDevice .captureTaken).general = h.general := before .general (by decide)
  have evaluates : AllBut [.monitor] _ (h.evalPool.countDevice .captureTaken).evalCapture :=
    evalLevel_of_noticeOff (by rw [generals, general]; exact off) _ _
  have prompts := promptCapture_allBut (h.evalPool.countDevice .captureTaken).evalCapture
  have serves : h.Serves (h.evalPool.countDevice .captureTaken).evalCapture.promptCapture :=
    (evalPool_serves h).trans ((serves_of_allBut counts (by decide) (by decide)).trans
      ((serves_of_allBut evaluates (by decide) (by decide)).trans (promptCapture_serves _)))
  have poolYoung := (evalPool_sendsOnly h).keeps_nothingAged young
  have nowYoung : (h.evalPool.countDevice .captureTaken).evalCapture.promptCapture.NothingAged := fun x => by
    rw [promptCapture_port, port_of_allBut evaluates (by decide) (by decide), port_of_allBut counts (by decide) (by decide)]
    exact promptIf_nothingAged (poolYoung x)
  have counters : (h.evalPool.countDevice .captureTaken).counters = _ := Gateway.counters_bump _ _ _
  have poolCounters : h.evalPool.counters = h.counters := pool .counters (by decide)
  have kept : h.counters = g.counters := returns .counters (by decide)
  have level : LevelOk .capturePending (h.evalPool.countDevice .captureTaken).evalCapture :=
    evalCapture_levelOk fun other => absurd rfl other
  rw [poolCounters, kept] at counters
  generalize h.evalPool.countDevice .captureTaken = c at before evaluates prompts serves nowYoung counters level ⊢
  have rest : AllBut [.portA, .portB, .monitor] c c.evalCapture.promptCapture :=
    (evaluates.mono (by decide)).trans (prompts.mono (by decide))
  have whole := before.trans (rest.mono (by decide))
  have captureNow : c.evalCapture.promptCapture.capture = h.capture := whole .capture (by decide)
  have captureKept : c.evalCapture.capture = h.capture := (before.trans (evaluates.mono (by decide))) .capture (by decide)
  have freeNow : c.evalCapture.promptCapture.free = h.free := whole .free (by decide)
  have countersNow : c.evalCapture.promptCapture.counters = c.counters := rest .counters (by decide)
  have monitorNow : c.evalCapture.promptCapture.monitor = c.evalCapture.monitor := prompts .monitor (by decide)
  refine ⟨⟨(returns.mono (by decide)).trans (whole.mono (by decide)), captureNow.trans capture, freeNow.trans free,
    countersNow.trans counters, ?_, fun x timer retest r role record => ?_⟩, nowYoung⟩
  · have pending : c.evalCapture.monitor.history.capturePending = !c.evalCapture.capture.isEmpty := level
    rw [monitorNow, pending, captureKept, capture]
  · exact (serves x).role.of_prompted (holds x timer retest r role record)

/-- Selections and the execution's next operation leave what the frame's leaving did. -/
theorem CaptureDropped.onward {g t u : Gateway} (dropped : CaptureDropped g t) (frame : AllBut [.portA, .portB, .exec] t u)
    (serves : t.Serves u) : CaptureDropped g u := by
  have capture : u.capture = t.capture := frame .capture (by decide)
  have free : u.free = t.free := frame .free (by decide)
  have counters : u.counters = t.counters := frame .counters (by decide)
  have monitor : u.monitor = t.monitor := frame .monitor (by decide)
  exact ⟨dropped.frame.trans (frame.mono (by decide)), capture.trans dropped.capture, free.trans dropped.free,
    counters.trans dropped.counted, by rw [monitor]; exact dropped.pending,
    fun x timer retest r role record => (serves x).role.of_prompted (dropped.prompts x timer retest r role record)⟩

/-! ## What the operation gives (R125, R136, R184) -/

theorem takeCapture_of_succeeds {g : Gateway} {ex : Execution} {b : PoolBuffer} {rest : List PoolBuffer}
    (succeeds : g.Succeeds ex .captureTake) (queue : g.capture = b :: rest) :
    let fixed := portByte b.ingress :: (b.frame.header ++ b.frame.tagBytes)
    let room := 96 - (3 + ex.results.length) - (2 + fixed.length) - 2 * ex.ops.tail.length
    g.takeCapture ex =
      .done (if b.frame.payload.length ≤ room then .ok else .short) (fixed ++ b.frame.payload.take room) 0 g.dropCapture := by
  intro fixed room
  have fits : ex.fits fixed.length = true := by
    rw [fits_iff_room]
    by_contra noRoom
    rw [capturedHead_length] at noRoom
    refine succeeds.2 .replyFull ?_
    unfold Gateway.Fails
    rw [if_neg (checks_of_succeeds succeeds)]
    exact .inr ⟨b, rest, queue, noRoom, rfl⟩
  have space : ex.space - 2 - fixed.length = room := by
    have tail : ex.ops.tail.length = ex.ops.length - 1 := List.length_tail
    show 96 - (3 + ex.results.length) - 2 * (ex.ops.length - 1) - 2 - fixed.length = _
    omega
  unfold Gateway.takeCapture
  rw [queue]
  dsimp only
  rw [if_pos fits, space]

/-- Settles O48, by what the leaving of a captured frame does. -/
theorem captureTakeGivesOldest : Obligations.CaptureTakeGivesOldest := by
  intro s ex b rest succeeds settled more queue off fixed room
  have port : (if b.ingress = .a then 0x00 else 0x01 : Byte) = portByte b.ingress := by cases b.ingress <;> rfl
  have body := takeCapture_of_succeeds succeeds queue
  dsimp only at body
  rw [← port] at body
  have access := access_of_succeeds succeeds
  have takes : effect .captureTake s.gw =
      (s.gw.dropCapture.finishOp ex (if b.frame.payload.length ≤ room then .ok else .short)
        (fixed ++ b.frame.payload.take room) 0).settle := by
    rw [show Instr.captureTake = Op.command 0 .captureTake from rfl, effect_command succeeds.1 (by simp)]
    exact runOp_of_done s.gw _ _ _ ex _ _ 0 succeeds.1.1 access body
  rw [finishOp_of_more _ _ _ _ _ more] at takes
  obtain ⟨dropped, young⟩ := dropCapture_outcome settled off
  generalize s.gw.dropCapture = d at takes dropped young
  obtain ⟨selects, -⟩ := settle_of_nothingAged
    { d with exec := some (ex.after (if b.frame.payload.length ≤ room then .ok else .short)
      (fixed ++ b.frame.payload.take room) 0) } young
  have exec : Gateway.exec (Gateway.settle _) = _ := selects .exec (by decide)
  have done := dropped.onward (((withExec_allBut d _).mono (by decide)).trans (selects.mono (by decide)))
    ((serves_of_allBut (withExec_allBut d _) (by decide) (by decide)).trans (settle_serves _))
  refine exec_of_effect (c := .captureTake) ⟨rfl, ?_⟩
  rw [takes]
  generalize Gateway.settle _ = t at exec done ⊢
  refine ⟨done.frame, ?_, done.free, done.counted, ?_, done.prompts, exec⟩
  · rw [done.capture, queue]
    rfl
  · rw [done.pending, queue]
    rfl

end Sys2Proof.Machine
end

section
/-! SUPPORT. EVENTS CLEAR and EVENTS MASK (R100, R134, R144, R174 to R178). -/

open Sys2Proof

namespace Sys2Proof.Machine

/-! ## ALERT re-evaluated (R176, R177) -/

/-- The part with ALERT as the flags and masks have it (R176). -/
def Gateway.pinned (g : Gateway) : Gateway := { g with monitor := { g.monitor with alert := g.asserts } }

theorem pinned_allBut (g : Gateway) : AllBut [.monitor] g g.pinned :=
  .of_same fun x => by cases x <;> simp [Part.Same, Gateway.pinned]

theorem asserts_iff (g : Gateway) :
    g.asserts = true ↔
      g.monitor.flags0 &&& ~~~ g.general.mask0 ≠ 0 ∨ g.monitor.flags1 &&& ~~~ g.general.mask1 ≠ 0 := by
  simp [Gateway.asserts, Monitor.asserts, Monitor.unmasked0, Monitor.unmasked1]

theorem alertEval_of_notRising {g : Gateway} (still : g.asserts = true → g.monitor.alert = true) :
    g.alertEval = g.pinned := by
  refine if_neg fun rising => ?_
  obtain ⟨raised, low⟩ := Bool.and_eq_true_iff.mp rising
  simp [still raised] at low

theorem alertEval_of_rising {g : Gateway} (raised : g.asserts = true) (low : g.monitor.alert = false) :
    g.alertEval = g.pinned.noticeAsk :=
  if_pos (by simp [raised, low])

/-! ## EVENTS CLEAR (R174) -/

/-- The part with the listed flags cleared (R174). -/
def Gateway.flagsCleared (g : Gateway) (w0 w1 : Word) : Gateway := { g with monitor := g.monitor.clear w0 w1 }

/-- A flag that stays unmasked after a clear was unmasked before it. -/
theorem and_clear_ne_zero {flags w mask : Word} (left : flags &&& ~~~ w &&& ~~~ mask ≠ 0) : flags &&& ~~~ mask ≠ 0 := by
  intro none
  apply left
  rw [BitVec.and_assoc, BitVec.and_comm (~~~ w), ← BitVec.and_assoc, none]
  exact BitVec.zero_and

/-- A clear cannot raise ALERT (R174, R176). -/
theorem clearFlags_eq {g : Gateway} (ok : g.AlertOk) (w0 w1 : Word) : g.clearFlags w0 w1 = (g.flagsCleared w0 w1).pinned := by
  refine alertEval_of_notRising (g := g.flagsCleared w0 w1) fun raised => ?_
  have before : g.asserts = true := by
    rw [asserts_iff] at raised ⊢
    exact raised.imp and_clear_ne_zero and_clear_ne_zero
  exact ok.trans before

/-! ## EVENTS MASK (R175) -/

/-- The part with both mask words replaced (R175). -/
def Gateway.masked (g : Gateway) (w0 w1 : Word) : Gateway :=
  { g with general := { g.general with mask0 := w0, mask1 := w1 } }

theorem masked_allBut (g : Gateway) (w0 w1 : Word) : AllBut [.general] g (g.masked w0 w1) :=
  .of_same fun x => by cases x <;> simp [Part.Same, Gateway.masked]

/-! ## The notice that a rising edge of ALERT asks for (R100, R144, R177, R178) -/

theorem noticeAsk_of_off {g : Gateway} (off : g.general.noticeEnable = false) : g.noticeAsk = g :=
  if_pos (by simp [off])

theorem noticeAsk_of_noFit {g : Gateway} (enabled : g.general.noticeEnable = true) (noFit : g.noticeFits = false) :
    g.noticeAsk = g.setFlag .noticeFailed :=
  (if_neg (by simp [enabled])).trans (if_neg (by simp [noFit]))

/-- The part once the agent has built its notice and queued it (R144, R178). -/
def Gateway.notified (g : Gateway) : Gateway :=
  ({ g with free := g.free - 1 }).modPort g.general.noticePort (·.enqueue .urgent g.noticeBuffer)

theorem noticeAsk_of_fit {g : Gateway} (enabled : g.general.noticeEnable = true) (fit : g.noticeFits = true) :
    g.noticeAsk = g.notified.poolEval :=
  (if_neg (by simp [enabled])).trans (if_pos fit)

theorem noticeFits_iff (g : Gateway) :
    g.noticeFits = true ↔ 1 ≤ g.free ∧ (g.port g.general.noticePort).state = .active ∧
      (g.port g.general.noticePort).egressCount < 24 := by
  simp only [Gateway.noticeFits, Bool.and_eq_true, decide_eq_true_iff, Port.admits_eq_true_iff, egressCap]
  constructor
  · rintro ⟨⟨free, active⟩, -, room⟩
    exact ⟨free, active, room⟩
  · rintro ⟨free, active, room⟩
    exact ⟨⟨free, active⟩, Port.online_of_active active, room⟩

theorem poolEval_of_quiet {g : Gateway} (quiet : g.general.poolPause = false) :
    AllBut [.monitor] g g.poolEval := by
  have is : g.poolEval = g.handLevel .poolLow g.poolLow := if_neg (by simp [quiet])
  rw [is]
  exact handLevel_allBut _ _ _

/-- What the notice of the unmasked flags leaves, where its port's slot is full and pool pause off (R100, R144, R178). -/
structure Noticed (g t : Gateway) : Prop where
  alert : t.monitor.alert = g.monitor.alert
  free : t.free = g.free - 1
  other : t.port g.general.noticePort.other = g.port g.general.noticePort.other
  urgent : (t.port g.general.noticePort).urgent = (g.port g.general.noticePort).urgent ++ [⟨g.noticeBuffer, 0⟩]
  settled : t.Settled

theorem noticeAsk_noticed {g : Gateway} (settled : g.Settled) (enabled : g.general.noticeEnable = true)
    (fit : g.noticeFits = true) (full : (g.port g.general.noticePort).slot ≠ .empty)
    (quiet : g.general.poolPause = false) : Noticed g g.noticeAsk := by
  rw [noticeAsk_of_fit enabled fit]
  have general : g.notified.general = g.general := Gateway.general_modPort _ _ _
  have pool := poolEval_of_quiet (g := g.notified) (by rw [general]; exact quiet)
  have alert : g.notified.poolEval.monitor.alert = g.notified.monitor.alert := poolEval_alert _
  have ports := port_of_allBut pool (by decide) (by decide)
  have own : g.notified.port g.general.noticePort = (g.port g.general.noticePort).enqueue .urgent g.noticeBuffer :=
    Gateway.port_modPort_self _ _ _
  have other : g.notified.port g.general.noticePort.other = g.port g.general.noticePort.other :=
    Gateway.port_modPort_other _ _ _
  have pin : g.notified.monitor = g.monitor := Gateway.monitor_modPort _ _ _
  have taken : g.notified.free = g.free - 1 := Gateway.free_modPort _ _ _
  have free : g.notified.poolEval.free = g.notified.free := pool .free (by decide)
  have queued : g.notified.Settled := by
    have still : Gateway.Settled { g with free := g.free - 1 } := settled_of_same (g := g) rfl rfl settled
    exact modPort_settled g.general.noticePort still fun _ _ empty => absurd empty full
  exact ⟨by rw [alert, pin], free.trans taken, (ports _).trans other, by rw [ports, own]; rfl,
    settled_of_same (pool .portA (by decide)) (pool .portB (by decide)) queued⟩

/-- Masks that do not raise ALERT, or raise it with notices off, move the pin alone (R175 to R177). -/
theorem replaceMasks_of_quiet {g : Gateway} {w0 w1 : Word}
    (quiet : ¬ ((g.monitor.alert = false ∧ (g.masked w0 w1).asserts = true) ∧ g.general.noticeEnable = true)) :
    g.replaceMasks w0 w1 = (g.masked w0 w1).pinned := by
  show (g.masked w0 w1).alertEval = _
  by_cases rises : (g.masked w0 w1).asserts = true ∧ (g.masked w0 w1).monitor.alert = false
  · obtain ⟨raised, low⟩ := rises
    rw [alertEval_of_rising raised low]
    have off : g.general.noticeEnable = false := by simpa using fun enabled => quiet ⟨⟨low, raised⟩, enabled⟩
    exact noticeAsk_of_off off
  · exact alertEval_of_notRising fun raised => by simpa using fun low => rises ⟨raised, low⟩

theorem pinned_masked_allBut (g : Gateway) (w0 w1 : Word) : AllBut [.general, .monitor] g (g.masked w0 w1).pinned :=
  ((masked_allBut g w0 w1).mono (by decide)).trans ((pinned_allBut _).mono (by decide))

theorem setFlag_latched (g : Gateway) (src : Source) : Latched src (g.setFlag src) := by
  have flag : ∀ flags mask : Word, (flags ||| mask) &&& mask = mask := fun flags mask => by
    rw [BitVec.or_comm, or_and_of_and _ _ _ BitVec.and_self]
  exact ⟨flag _ _, flag _ _⟩

/-- What EVENTS MASK leaves, with operations to come (R123, R134). -/
theorem eventsMask_effect {g : Gateway} {ex : Execution} {w0 w1 : Word} (succeeds : g.Succeeds ex (.eventsMask w0 w1))
    (more : ex.ops.tail ≠ []) :
    effect .eventsMask g = ({ g.replaceMasks w0 w1 with exec := some (ex.after .ok [] 2) }).settle := by
  have access := access_of_succeeds succeeds
  rw [show Instr.eventsMask = Op.command 0 (.eventsMask w0 w1) from rfl, effect_command succeeds.1 (by simp),
    ← finishOp_of_more _ _ _ _ _ more]
  exact runOp_of_done g _ _ _ ex _ _ 2 succeeds.1.1 access rfl

theorem replaceMasks_nothingAged {g : Gateway} (settled : g.Settled) (w0 w1 : Word) : (g.replaceMasks w0 w1).NothingAged := by
  have still : (g.masked w0 w1).Settled := settled_of_same (g := g) rfl rfl settled
  exact (alertEval_sendsOnly (g.masked w0 w1)).keeps_nothingAged still.nothingAged

/-- Settles O47, by whether the masks raise ALERT and whether its notice fits. -/
theorem clearAndMaskMoveAlert : Obligations.ClearAndMaskMoveAlert := by
  intro s ex w0 w1 settled more ok
  refine ⟨fun succeeds => ?_, fun succeeds => ?_⟩
  · have clears : AllBut [.monitor] s.gw (s.gw.clearFlags w0 w1) := by
      rw [clearFlags_eq ok]
      exact .of_same fun x => by cases x <;> simp [Part.Same, Gateway.pinned, Gateway.flagsCleared]
    obtain ⟨t, runs, pending, frame, is⟩ := operation_done (k := 0) succeeds (by simp) rfl more
      (settled_of_same (clears .portA (by decide)) (clears .portB (by decide)) settled) clears
    rw [clearFlags_eq ok] at is
    refine ⟨t, runs, pending, frame, by rw [is], by rw [is]; rfl, by rw [is]; rfl, by rw [is]; rfl, ?_⟩
    rw [is]
    exact asserts_iff (s.gw.flagsCleared w0 w1)
  · intro g u0 u1 rises n fits
    have asserts : (g.masked w0 w1).asserts = true ↔ u0 ≠ 0 ∨ u1 ≠ 0 := asserts_iff _
    have young := replaceMasks_nothingAged settled w0 w1
    have replaces := replaceMasks_allBut g w0 w1
    have general : (g.replaceMasks w0 w1).general = { g.general with mask0 := w0, mask1 := w1 } :=
      alertEval_allBut (g.masked w0 w1) .general (by decide)
    have quiet := replaceMasks_of_quiet (g := g) (w0 := w0) (w1 := w1)
    have asks : rises → g.replaceMasks w0 w1 = (g.masked w0 w1).pinned.noticeAsk := fun ⟨low, raised⟩ =>
      alertEval_of_rising (asserts.mpr raised) low
    have pins := pinned_masked_allBut g w0 w1
    have still : (g.masked w0 w1).pinned.Settled := settled_of_same (g := g) rfl rfl settled
    refine exec_of_effect (c := .eventsMask) ⟨rfl, ?_⟩
    rw [eventsMask_effect succeeds more]
    generalize g.replaceMasks w0 w1 = r at young replaces general quiet asks ⊢
    obtain ⟨selects, -⟩ := settle_of_nothingAged { r with exec := some (ex.after .ok [] 2) } young
    have idle : r.Settled → ({ r with exec := some (ex.after .ok [] 2) } : Gateway).settle =
        { r with exec := some (ex.after .ok [] 2) } := fun done => settle_of_settled _ done
    have runs := withExec_allBut r (some (ex.after .ok [] 2))
    have exec : ({ r with exec := some (ex.after .ok [] 2) } : Gateway).settle.exec = _ := selects .exec (by decide)
    have generalNow : ({ r with exec := some (ex.after .ok [] 2) } : Gateway).settle.general = r.general :=
      selects .general (by decide)
    have whole : AllBut [.general, .monitor] g r →
        AllBut [.exec, .general, .monitor] g { r with exec := some (ex.after .ok [] 2) } := fun frame =>
      (frame.mono (by decide)).trans (runs.mono (by decide))
    refine ⟨(replaces.mono (by decide)).trans ((runs.mono (by decide)).trans (selects.mono (by decide))), exec,
      generalNow.trans general, fun calm => ?_, fun raises enabled noFit => ?_, fun raises enabled fit full off => ?_⟩
    · have is := quiet (by rw [asserts]; exact calm)
      subst is
      rw [idle still]
      exact ⟨whole pins, rfl, asserts⟩
    · have unfit : (g.masked w0 w1).pinned.noticeFits = false := by
        rw [Bool.eq_false_iff]
        exact fun fit => noFit ((noticeFits_iff _).mp fit)
      have is := (asks raises).trans (noticeAsk_of_noFit enabled unfit)
      subst is
      rw [idle still]
      exact ⟨whole (pins.trans ((setFlag_allBut _ _).mono (by decide))), asserts.mpr raises.2, setFlag_latched _ _⟩
    · have noticed : Noticed (g.masked w0 w1).pinned r := by
        rw [asks raises]
        exact noticeAsk_noticed still enabled ((noticeFits_iff _).mpr fit) full off
      rw [idle noticed.settled]
      refine ⟨noticed.alert.trans (asserts.mpr raises.2), ?_, noticed.other, _, noticed.urgent, rfl, rfl, rfl⟩
      have taken : r.free = g.free - 1 := noticed.free
      have some : 1 ≤ g.free := fit.1
      show r.free + 1 = g.free
      omega

end Sys2Proof.Machine
end

section
/-! SUPPORT. GROUP SET, GROUP CLEAR and COUNTERS CLEAR (R123, R132, R168, R187). -/

open Sys2Proof

namespace Sys2Proof.Machine

/-! ## Bins (R132, R187) -/

theorem atBit_one_bit : ∀ i j : Fin 16, (atBit 1 i).getLsbD j = decide (j = i) := by decide

/-- The word of a bin with the bin's bit given a value, bit by bit (R132). -/
theorem binWord_bit (value : Bool) (old : Word) {i j : Nat} (hi : i < 16) (hj : j < 16) :
    (if value then old ||| atBit 1 i else old &&& ~~~ atBit 1 i).getLsbD j = if j = i then value else old.getLsbD j := by
  have bit : (atBit 1 i).getLsbD j = decide (j = i) := by simpa using atBit_one_bit ⟨i, hi⟩ ⟨j, hj⟩
  cases value with
  | true =>
    show (old ||| atBit 1 i).getLsbD j = _
    rw [BitVec.getLsbD_or, bit]
    by_cases same : j = i <;> simp [same]
  | false =>
    show (old &&& ~~~ atBit 1 i).getLsbD j = _
    rw [BitVec.getLsbD_and, BitVec.getLsbD_not, bit]
    by_cases same : j = i <;> simp [same, hj]

theorem groupBase_eq (p : PortId) : groupBase p = if p = .a then 0 else 4 := by cases p <;> rfl

/-- A bin written has its value, and no other bin of either port moves (R132). -/
theorem binSet_writeBin {ws : List Word} (size : ws.length = 8) (p x : PortId) (value : Bool) {b bin : Nat} (hb : b < 64)
    (hbin : bin < 64) :
    binSet (writeBin p value ws b) x bin = if x = p ∧ bin = b then value else binSet ws x bin := by
  have word : (writeBin p value ws b).getD (groupBase x + bin / 16) 0 =
      if groupBase x + bin / 16 = groupBase p + b / 16 then
        if value then ws.getD (groupBase p + b / 16) 0 ||| atBit 1 (b % 16)
        else ws.getD (groupBase p + b / 16) 0 &&& ~~~ atBit 1 (b % 16)
      else ws.getD (groupBase x + bin / 16) 0 := by
    rw [writeBin, getD_set, size]
    have inside : groupBase p + b / 16 < 8 := by
      rw [groupBase_eq]
      split <;> omega
    simp only [inside, and_true]
  have index : groupBase x + bin / 16 = groupBase p + b / 16 ↔ x = p ∧ bin / 16 = b / 16 := by
    cases x <;> cases p <;> simp [groupBase] <;> omega
  unfold binSet
  rw [word]
  by_cases here : groupBase x + bin / 16 = groupBase p + b / 16
  · obtain ⟨port, high⟩ := index.mp here
    have bit := binWord_bit value (ws.getD (groupBase p + b / 16) 0) (i := b % 16) (j := bin % 16) (by omega) (by omega)
    rw [if_pos here, bit, here]
    by_cases low : bin % 16 = b % 16
    · rw [if_pos low, if_pos ⟨port, by omega⟩]
    · rw [if_neg low, if_neg fun ⟨_, same⟩ => low (by rw [same])]
  · rw [if_neg here, if_neg fun ⟨port, same⟩ => here (by rw [port, same])]

/-- The listed bins have their value, and no other bin of either port moves (R132). -/
theorem binSet_writeBins (p x : PortId) (value : Bool) {bin : Nat} (hbin : bin < 64) (bins : List Byte)
    (small : ∀ b ∈ bins, b.toNat < 64) {ws : List Word} (size : ws.length = 8) :
    binSet (bins.foldl (fun ws b => writeBin p value ws b.toNat) ws) x bin =
      if x = p ∧ BitVec.ofNat 8 bin ∈ bins then value else binSet ws x bin := by
  induction bins generalizing ws with
  | nil => simp
  | cons b rest ih =>
    have named : BitVec.ofNat 8 bin = b ↔ bin = b.toNat := by
      constructor
      · rintro rfl
        simp only [BitVec.toNat_ofNat]
        omega
      · rintro rfl
        simp
    rw [List.foldl_cons, ih (fun c inside => small c (List.mem_cons_of_mem _ inside)) (by rw [writeBin_length, size]),
      binSet_writeBin size p x value (small b List.mem_cons_self) hbin]
    simp only [List.mem_cons, named]
    by_cases port : x = p <;> by_cases here : bin = b.toNat <;> by_cases later : BitVec.ofNat 8 bin ∈ rest <;>
      simp [port, here, later]

/-! ## Counters (R168) -/

theorem clearBlock_getD {ws : List Word} {block i : Nat} (small : block ≤ 3) (inside : i < ws.length) (size : ws.length = 48) :
    (clearBlock ws block).getD i 0 =
      if block = (if i < 14 then 0 else if i < 28 then 1 else if i < 32 then 2 else 3) then 0 else ws.getD i 0 := by
  have range : (blockBase block ≤ i ∧ i < blockBase block + blockSize block) ↔
      block = (if i < 14 then 0 else if i < 28 then 1 else if i < 32 then 2 else 3) := by
    interval_cases block <;> simp only [blockBase, blockSize] <;> grind
  unfold clearBlock
  rw [getD_foldl_set_range ws _ _ (fun _ => 0) inside]
  simp only [range]

/-! ## The end of an execution begins another at most (R119) -/

theorem beginExecution_exec (g : Gateway) :
    g.beginExecution.exec = g.exec ∨ ∃ ex : Execution, g.beginExecution.exec = some ex ∧ ex.decoded = false := by
  unfold Gateway.beginExecution
  repeat' split
  · exact .inl rfl
  · exact .inr ⟨_, rfl, rfl⟩
  · exact .inl rfl

/-- A decoded execution that has ended is not the one that executes next (R119, R122). -/
theorem failOp_exec_ne (g : Gateway) (ex now : Execution) (status : OpStatus) (decoded : now.decoded = true) :
    (g.failOp ex status).settle.exec ≠ some now := by
  have kept : (g.failOp ex status).settle.exec = (g.failOp ex status).exec := settle_allBut _ .exec (by decide)
  rw [kept]
  intro same
  unfold Gateway.failOp at same
  rw [endExecution_eq] at same
  generalize ended : Gateway.turned _ _ _ = h at same
  have none : (h.offerReply AgentEntry.isExecuting).exec = h.exec := offerReply_allBut _ _ .exec (by decide)
  rcases beginExecution_exec (h.offerReply AgentEntry.isExecuting) with stays | ⟨next, begins, fresh⟩
  · rw [stays, none, ← ended] at same
    cases same
  · rw [begins] at same
    cases same
    simp [fresh] at decoded

/-! ## GROUP SET, GROUP CLEAR, COUNTERS CLEAR -/

/-- The operation that gives bins a value (R132). -/
def binsOp (value : Bool) (port : Byte) (bins : List Byte) : Op := if value then .groupSet port bins else .groupClear port bins

/-- What GROUP SET and GROUP CLEAR ask of their operands (R132). -/
def BinsGood (port : Byte) (bins : List Byte) : Prop :=
  1 ≤ bins.length ∧ bins.length ≤ 16 ∧ port.toNat ≤ 1 ∧ ∀ b ∈ bins, b.toNat < 64

/-- The part with the listed bins of a port's set at a value (R132). -/
def Gateway.binsWritten (g : Gateway) (p : PortId) (bins : List Byte) (value : Bool) : Gateway :=
  { g with group := bins.foldl (fun ws b => writeBin p value ws b.toNat) g.group }

theorem binsWritten_allBut (g : Gateway) (p : PortId) (bins : List Byte) (value : Bool) :
    AllBut [.group] g (g.binsWritten p bins value) :=
  .of_same fun x => by cases x <;> simp [Part.Same, Gateway.binsWritten]

theorem binsOp_command (value : Bool) (port : Byte) (bins : List Byte) :
    (binsOp value port bins).command 0 = if value then Instr.groupSet else Instr.groupClear := by
  cases value <;> rfl

theorem binsOp_fails_iff {g : Gateway} (access : g.execAccess = .full) (ex : Execution) (value : Bool) (port : Byte)
    (bins : List Byte) (status : OpStatus) :
    g.Fails ex (binsOp value port bins) status ↔ ¬ BinsGood port bins ∧ status = .badOperand := by
  have bad : (bins.length = 0 ∨ 16 < bins.length ∨ 1 < port.toNat ∨ ∃ b ∈ bins, 64 ≤ b.toNat) ↔ ¬ BinsGood port bins := by
    unfold BinsGood
    simp only [not_and_or, not_forall, not_le, not_lt, exists_prop, Nat.lt_one_iff]
  rw [← bad]
  cases value <;> exact iff_of_eq (if_neg fun denied => denied.2 access)

theorem binsOp_body {g : Gateway} {port : Byte} {bins : List Byte} (good : BinsGood port bins) (value : Bool) (ex : Execution) :
    (g.opBody 0 (binsOp value port bins) ex) =
      .done .ok [] 0 (g.binsWritten (if port = 0 then .a else .b) bins value) := by
  obtain ⟨least, most, named, small⟩ := good
  have fine : ¬ (bins.length = 0 ∨ 16 < bins.length ∨ 1 < port.toNat ∨ (bins.any fun b => decide (64 ≤ b.toNat)) = true) := by
    simp only [List.any_eq_true, decide_eq_true_iff]
    rintro (none | many | other | ⟨b, inside, large⟩)
    · omega
    · omega
    · omega
    · exact absurd (small b inside) (by omega)
  cases value <;> exact if_neg fine

/-- Settles O46, by whether the operands are good, and by the range of the block. -/
theorem binsAndBlocksChange : Obligations.BinsAndBlocksChange := by
  intro s ex settled more access
  refine ⟨fun port bins value p bin runs size small => ?_, fun block i runs small size inside => ?_⟩
  · intro good
    have fails := binsOp_fails_iff access ex value port bins
    have command := binsOp_command value port bins
    have current : s.gw.Runs ex (binsOp value port bins) := runs
    by_cases fine : BinsGood port bins
    · have succeeds : s.gw.Succeeds ex (binsOp value port bins) :=
        ⟨current, fun status refused => ((fails status).mp refused).1 fine⟩
      have written := binsWritten_allBut s.gw (if port = 0 then .a else .b) bins value
      obtain ⟨t, steps, pending, frame, is⟩ := operation_done succeeds (by cases value <;> simp [binsOp])
        (binsOp_body fine value ex) more (settled_of_same (g := s.gw) rfl rfl settled) written
      rw [command] at steps
      obtain ⟨-, -, named, within⟩ := id fine
      have bin' := binSet_writeBins (if port = 0 then .a else .b) p value small bins within size
      have port' : p = (if port = 0 then .a else .b) ↔ port = if p = .a then 0 else 1 := by
        have two : port = 0 ∨ port = 1 := by bv_omega
        rcases two with rfl | rfl <;> cases p <;> decide
      refine ⟨t, steps, pending, fun _ => ⟨frame, by rw [is], ?_⟩, fun bad => absurd fine bad⟩
      rw [is]
      refine bin'.trans ?_
      simp only [port']
    · obtain ⟨t, steps, pending, frame, replies⟩ :=
        failedOperationEndsExecution s ex _ .badOperand 0 current ((fails _).mpr ⟨fine, rfl⟩) settled
      have fresh : t.gw.exec ≠ some ex := by
        rw [exec_eq_effect, effect_of_fails current ((fails _).mpr ⟨fine, rfl⟩)] at steps
        cases steps
        exact failOp_exec_ne _ _ _ _ current.2.1
      rw [command] at steps
      refine ⟨t, steps, pending, fun good => absurd good fine, fun _ => ⟨frame, ?_, frame .group (by decide), fun e queues =>
        (replies e queues).2⟩⟩
      rw [current.1]
      exact fresh
  · have succeeds : s.gw.Succeeds ex (.countersClear block) := by
      refine ⟨runs, fun status refused => ?_⟩
      unfold Gateway.Fails at refused
      rw [if_neg fun denied => denied.2 access] at refused
      exact absurd refused.1 (by omega)
    have cleared : AllBut [.counters] s.gw { s.gw with counters := clearBlock s.gw.counters block.toNat } :=
      .of_same fun x => by cases x <;> simp [Part.Same]
    obtain ⟨t, steps, pending, frame, is⟩ := operation_done (k := 0) succeeds (by simp) (if_pos small) more
      (settled_of_same (g := s.gw) rfl rfl settled) cleared
    refine ⟨t, steps, pending, frame, by rw [is], ?_⟩
    rw [is]
    show (clearBlock s.gw.counters block.toNat).getD i 0 = _
    rw [clearBlock_getD small (by omega) size]

end Sys2Proof.Machine
end

section
/-! SUPPORT. The words that a WRITE leaves in GENERAL, GROUP, METER and ROUTE (R43, R73, R75, R113, R115, R129, R130). -/

open Sys2Proof

namespace Sys2Proof.Machine

/-! ## The last of the words for an index (R73, R129) -/

/-- The last of the listed words for an index. -/
def lastFor (targets : List (Nat × Word)) (i : Nat) : Option Word :=
  ((targets.filter fun iw => iw.1 == i).getLast?).map Prod.snd

theorem lastWritten_eq (targets : List (Nat × Word)) (i : Nat) (old : Word) :
    lastWritten targets i old = (lastFor targets i).getD old := rfl

theorem lastFor_append (targets : List (Nat × Word)) (iw : Nat × Word) (i : Nat) :
    lastFor (targets ++ [iw]) i = if iw.1 = i then some iw.2 else lastFor targets i := by
  by_cases here : iw.1 = i <;> simp [lastFor, List.filter_append, here]

theorem lastFor_isSome_iff (targets : List (Nat × Word)) (i : Nat) :
    (lastFor targets i).isSome = true ↔ ∃ iw ∈ targets, iw.1 = i := by
  simp [lastFor]

/-- Words written one after another: where each word for `i` leaves `f` of it and the others leave what stood there, the
last word for `i` decides (R73). -/
theorem foldl_lastFor {σ : Type} {step : σ → Nat × Word → σ} {get : σ → Word} {f : Word → Word} {P : σ → Prop} {i : Nat}
    (targets : List (Nat × Word)) {s : σ} (holds : P s) (keeps : ∀ iw ∈ targets, ∀ s, P s → P (step s iw))
    (hit : ∀ iw ∈ targets, iw.1 = i → ∀ s, P s → get (step s iw) = f iw.2)
    (miss : ∀ iw ∈ targets, iw.1 ≠ i → ∀ s, P s → get (step s iw) = get s) :
    P (targets.foldl step s) ∧ get (targets.foldl step s) = ((lastFor targets i).map f).getD (get s) := by
  induction targets using List.reverseRecOn with
  | nil => exact ⟨holds, rfl⟩
  | append_singleton before iw ih =>
    obtain ⟨now, value⟩ := ih (fun x inside => keeps x (List.mem_append_left _ inside))
      (fun x inside => hit x (List.mem_append_left _ inside)) (fun x inside => miss x (List.mem_append_left _ inside))
    have last : iw ∈ before ++ [iw] := by simp
    rw [List.foldl_append, List.foldl_cons, List.foldl_nil, lastFor_append]
    refine ⟨keeps iw last _ now, ?_⟩
    by_cases here : iw.1 = i
    · rw [if_pos here, hit iw last here _ now]
      rfl
    · rw [if_neg here, miss iw last here _ now, value]

/-- Where what stood there is `f` of itself, the last word, or what stood there, is read through `f`. -/
theorem getD_map_of_fixed {f : Word → Word} {old : Word} (fixed : f old = old) (o : Option Word) :
    (o.map f).getD old = f (o.getD old) := by
  cases o with
  | none => exact fixed.symm
  | some v => rfl

/-! ## GROUP and ROUTE (R75, R130) -/

theorem foldl_set_lastWritten {ws : List Word} (targets : List (Nat × Word)) {i : Nat} (inside : i < ws.length) :
    (targets.foldl (fun (ws : List Word) (iw : Nat × Word) => ws.set iw.1 iw.2) ws).getD i 0 =
      lastWritten targets i (ws.getD i 0) := by
  have written := foldl_lastFor (f := id) (i := i) (get := fun l : List Word => l.getD i 0)
    (P := fun l : List Word => l.length = ws.length) (step := fun (ws : List Word) (iw : Nat × Word) => ws.set iw.1 iw.2)
    targets (s := ws) rfl (fun iw _ l length => by rw [List.length_set, length])
    (fun iw _ here l length => by rw [getD_set, if_pos ⟨here.symm, by omega⟩]; rfl)
    (fun iw _ other l length => by rw [getD_set, if_neg fun both => other both.1.symm])
  rw [written.2, Option.map_id, lastWritten_eq]
  rfl

theorem writeRouteWords_getD {ws : List Word} (targets : List (Nat × Word)) {i : Nat} (inside : i < ws.length) :
    (writeRouteWords ws targets).getD i 0 =
      if i % 12 = 11 ∧ ∃ iw ∈ targets, iw.1 = i then 0 else lastWritten targets i (ws.getD i 0) := by
  have written := foldl_lastFor (f := fun v => if i % 12 = 11 then 0 else v) (i := i) (get := fun l : List Word => l.getD i 0)
    (P := fun l : List Word => l.length = ws.length)
    (step := fun (r : List Word) (iw : Nat × Word) => r.set iw.1 (if iw.1 % 12 = 11 then 0 else iw.2))
    targets (s := ws) rfl (fun iw _ l length => by rw [List.length_set, length])
    (fun iw _ here l length => by rw [getD_set, if_pos ⟨here.symm, by omega⟩, here])
    (fun iw _ other l length => by rw [getD_set, if_neg fun both => other both.1.symm])
  have named := lastFor_isSome_iff targets i
  unfold writeRouteWords
  rw [written.2, lastWritten_eq]
  cases last : lastFor targets i with
  | none =>
    rw [last] at named
    rw [if_neg fun both => by simpa using named.mpr both.2]
    rfl
  | some v =>
    rw [last] at named
    have named := named.mp rfl
    by_cases count : i % 12 = 11
    · rw [if_pos ⟨count, named⟩]
      exact if_pos count
    · rw [if_neg fun both => count both.1]
      exact if_neg count

/-! ## GENERAL (R186) -/

theorem general_get_set (w : General) {i j : Nat} (hi : i < 11) (hj : j < 11) (v : Word) :
    (w.set j v).get i = if j = i then v else w.get i := by
  interval_cases j <;> interval_cases i <;> rfl

theorem foldl_general_lastWritten (w : General) {targets : List (Nat × Word)} (inside : ∀ iw ∈ targets, iw.1 < 11) {i : Nat}
    (hi : i < 11) :
    (targets.foldl (fun (w : General) (iw : Nat × Word) => w.set iw.1 iw.2) w).get i = lastWritten targets i (w.get i) := by
  have written := foldl_lastFor (f := id) (i := i) (get := fun w : General => w.get i) (P := fun _ => True)
    (step := fun (w : General) (iw : Nat × Word) => w.set iw.1 iw.2) targets (s := w) trivial (fun _ _ _ _ => trivial)
    (fun iw mem here w _ => by rw [general_get_set w hi (inside iw mem), if_pos here]; rfl)
    (fun iw mem other w _ => by rw [general_get_set w hi (inside iw mem), if_neg other])
  rw [written.2, Option.map_id, lastWritten_eq]
  rfl

/-! ## METER (R113, R115) -/

/-- The bits of METER word `j` that belong to a setting (R113). -/
def meterMask (j : Nat) (v : Word) : Word := if j = 0 then v &&& 0x8003 else v

theorem meter_get_set (m : Meter) {i j : Nat} (hi : i < 4) (hj : j < 4) (v : Word) :
    (m.set j v).get i = if j = i then meterMask i v else m.get i := by
  interval_cases j <;> interval_cases i <;> rfl

theorem modify_getD {α : Type} (l : List α) (f : α → α) (j k : Nat) (d : α) (inside : k < l.length) :
    (l.modify j f).getD k d = if j = k then f (l.getD k d) else l.getD k d := by
  simp only [List.getD_eq_getElem?_getD, List.getElem?_modify, List.getElem?_eq_getElem inside]
  split <;> rfl

/-- A METER word once all are written, before credits are limited (R113). -/
theorem foldl_writeMeterWord_get {ms : List Meter} (targets : List (Nat × Word)) {i : Nat} (inside : i / 4 < ms.length) :
    (targets.foldl writeMeterWord ms).length = ms.length ∧
      ((targets.foldl writeMeterWord ms).getD (i / 4) Meter.reset).get (i % 4) =
        ((lastFor targets i).map (meterMask (i % 4))).getD ((ms.getD (i / 4) Meter.reset).get (i % 4)) := by
  have small : ∀ n : Nat, n % 4 < 4 := fun n => Nat.mod_lt _ (by decide)
  refine foldl_lastFor (f := meterMask (i % 4)) (i := i) (get := fun l : List Meter => (l.getD (i / 4) Meter.reset).get (i % 4))
    (P := fun l : List Meter => l.length = ms.length) (step := writeMeterWord) targets (s := ms) rfl ?_ ?_ ?_
  · intro iw _ l length
    rw [writeMeterWord, List.length_modify, length]
  · intro iw _ here l length
    rw [writeMeterWord, modify_getD _ _ _ _ _ (by omega), here, if_pos rfl, meter_get_set _ (small i) (small i), if_pos rfl]
  · intro iw _ other l length
    rw [writeMeterWord, modify_getD _ _ _ _ _ (by omega)]
    by_cases same : iw.1 / 4 = i / 4
    · rw [if_pos same, meter_get_set _ (small i) (small _), if_neg (by omega)]
    · rw [if_neg same]

theorem promptMeter_port (g : Gateway) (k : Nat) (x : PortId) :
    (g.promptMeter k).port x = Port.promptIf (fun r => r.forwards && r.meter = some k) (g.port x) := by
  rw [Gateway.promptMeter, modBoth_port]

/-- A hold waits for the credit of one of the first `n` meters whose credit was written (R87, R115). -/
def waitsForCredit (targets : List (Nat × Word)) (n : Nat) (r : DecisionRecord) : Bool :=
  r.forwards && (List.range n).any fun k => writesCredit targets k && r.meter = some k

/-- The meters once their words are written (R113). -/
def Gateway.meterWords (g : Gateway) (targets : List (Nat × Word)) (k : Nat) : Meter :=
  (targets.foldl writeMeterWord g.meters).getD k Meter.reset

/-- A WRITE of METER words limits the credit of each meter whose burst or credit it wrote, and marks the FORWARD holds that
name one of these for their re-test (R87, R113, R115). -/
theorem writeMeters_outcome {g : Gateway} (size : g.meters.length = 16) (targets : List (Nat × Word)) :
    (∀ k < 16, (g.writeMeters targets).meter k =
        if writesCredit targets k then (g.meterWords targets k).limited else g.meterWords targets k) ∧
      ∀ x, (g.writeMeters targets).port x = Port.promptIf (waitsForCredit targets 16) (g.port x) := by
  have sized : (targets.foldl writeMeterWord g.meters).length = 16 :=
    (foldl_writeMeterWord_get (i := 0) targets (by omega)).1.trans size
  have written := foldl_range_induction (f := Gateway.meterWritten targets)
    (init := { g with meters := targets.foldl writeMeterWord g.meters })
    (P := fun n t => t.meters.length = 16 ∧
      (∀ k < 16, t.meter k = if k < n ∧ writesCredit targets k = true then (g.meterWords targets k).limited
        else g.meterWords targets k) ∧
      ∀ x, t.port x = Port.promptIf (waitsForCredit targets n) (g.port x)) ?_ 16 ?_
  · obtain ⟨-, meters, ports⟩ := written
    exact ⟨fun k small => by rw [Gateway.writeMeters, meters k small]; simp only [small, true_and], ports⟩
  · refine ⟨sized, fun k small => ?_, fun x => ?_⟩
    · rw [if_neg fun both => Nat.not_lt_zero _ both.1]
      rfl
    · have never : waitsForCredit targets 0 = fun _ => false := funext fun r => by simp [waitsForCredit]
      rw [never, promptIf_never]
      cases x <;> rfl
  · rintro n - t ⟨length, meters, ports⟩
    have next : waitsForCredit targets (n + 1) = fun r =>
        waitsForCredit targets n r || (writesCredit targets n && (r.forwards && r.meter = some n)) := by
      funext r
      simp only [waitsForCredit, List.range_succ, List.any_append, List.any_cons, List.any_nil, Bool.or_false]
      cases r.forwards <;> simp
    by_cases writes : writesCredit targets n = true
    · have is : t.meterWritten targets n = ({ t with meters := t.meters.modify n Meter.limited }).promptMeter n := if_pos writes
      have kept : (t.meterWritten targets n).meters = t.meters.modify n Meter.limited := by
        rw [is]
        exact promptMeter_meters _ n
      refine ⟨by rw [kept, List.length_modify, length], fun k small => ?_, fun x => ?_⟩
      · have before := meters k small
        unfold Gateway.meter at before ⊢
        rw [kept, modify_getD _ _ _ _ _ (by omega), before]
        by_cases same : n = k
        · subst same
          rw [if_pos rfl, if_neg (by omega), if_pos ⟨by omega, writes⟩]
        · rw [if_neg same]
          simp only [show k < n + 1 ↔ k < n by omega]
      · have same : ({ t with meters := t.meters.modify n Meter.limited } : Gateway).port x = t.port x := by cases x <;> rfl
        rw [is, promptMeter_port, same, ports, promptIf_promptIf, next]
        simp only [writes, Bool.true_and]
    · have is : t.meterWritten targets n = t := if_neg writes
      rw [is, next]
      refine ⟨length, fun k small => ?_, fun x => ?_⟩
      · rw [meters k small]
        by_cases same : n = k
        · subst same
          rw [if_neg (by omega), if_neg fun both => writes both.2]
        · simp only [show k < n + 1 ↔ k < n by omega]
      · simp only [writes, Bool.false_and, Bool.or_false]
        exact ports x

theorem meterWords_get {g : Gateway} (size : g.meters.length = 16) (targets : List (Nat × Word)) {i : Nat} (inside : i < 64)
    (fixed : meterMask (i % 4) ((g.meter (i / 4)).get (i % 4)) = (g.meter (i / 4)).get (i % 4)) :
    (g.meterWords targets (i / 4)).get (i % 4) =
      meterMask (i % 4) (lastWritten targets i ((g.meter (i / 4)).get (i % 4))) := by
  rw [lastWritten_eq, ← getD_map_of_fixed fixed]
  exact (foldl_writeMeterWord_get targets (by omega)).2

/-- A meter whose burst and credit no word names keeps both (R115). -/
theorem meterWords_bounded {g : Gateway} (size : g.meters.length = 16) (targets : List (Nat × Word)) {k : Nat} (small : k < 16)
    (unwritten : writesCredit targets k = false) (ok : (g.meter k).Ok) :
    (g.meterWords targets k).credit.toNat ≤ (g.meterWords targets k).burst.toNat := by
  have kept : ∀ j, 2 ≤ j → j < 4 → (g.meterWords targets k).get j = (g.meter k).get j := fun j high low => by
    have none : lastFor targets (4 * k + j) = none := by
      rw [← Option.not_isSome_iff_eq_none, lastFor_isSome_iff]
      rintro ⟨iw, mem, index⟩
      have writes : writesCredit targets k = true := List.any_eq_true.mpr ⟨iw, mem, by
        rw [Bool.and_eq_true, beq_iff_eq, decide_eq_true_iff]
        omega⟩
      simp [unwritten] at writes
    have word := (foldl_writeMeterWord_get (ms := g.meters) targets (i := 4 * k + j) (by omega)).2
    rw [none, show (4 * k + j) / 4 = k by omega, show (4 * k + j) % 4 = j by omega] at word
    exact word
  have credit : (g.meterWords targets k).credit = (g.meter k).credit := kept 3 (by decide) (by decide)
  have burst : (g.meterWords targets k).burst = (g.meter k).burst := kept 2 (by decide) (by decide)
  rw [credit, burst]
  exact ok.1

/-- The words of a meter after a WRITE of METER words, each for one of its indices (R113, R115). -/
theorem writeMeters_words {g : Gateway} (size : g.meters.length = 16) (ok : ∀ m ∈ g.meters, m.Ok)
    (targets : List (Nat × Word)) {i : Nat} (inside : i < 64) :
    (i % 4 = 0 → ((g.writeMeters targets).meter (i / 4)).control =
        lastWritten targets i ((g.meter (i / 4)).get (i % 4)) &&& 0x8003) ∧
      (i % 4 = 1 → ((g.writeMeters targets).meter (i / 4)).rate = lastWritten targets i ((g.meter (i / 4)).get (i % 4))) ∧
      (i % 4 = 2 → ((g.writeMeters targets).meter (i / 4)).burst = lastWritten targets i ((g.meter (i / 4)).get (i % 4))) ∧
      (i % 4 = 3 → ((g.writeMeters targets).meter (i / 4)).credit.toNat =
        min (lastWritten targets i ((g.meter (i / 4)).get (i % 4))).toNat
          ((g.writeMeters targets).meter (i / 4)).burst.toNat) := by
  have small : i / 4 < 16 := by omega
  have fine := meter_ok ⟨size, ok⟩ (i / 4)
  have meter := (writeMeters_outcome size targets).1 (i / 4) small
  have word := meterWords_get size targets inside (by
    unfold meterMask
    split
    · next control => rw [control]; exact fine.2.2.2
    · rfl)
  have limits : ((g.writeMeters targets).meter (i / 4)).control = (g.meterWords targets (i / 4)).control ∧
      ((g.writeMeters targets).meter (i / 4)).rate = (g.meterWords targets (i / 4)).rate ∧
      ((g.writeMeters targets).meter (i / 4)).burst = (g.meterWords targets (i / 4)).burst ∧
      ((g.writeMeters targets).meter (i / 4)).credit.toNat =
        min (g.meterWords targets (i / 4)).credit.toNat (g.meterWords targets (i / 4)).burst.toNat := by
    rw [meter]
    split
    · rw [limited_eq]
      exact ⟨rfl, rfl, rfl, limited_credit _⟩
    · next unwritten =>
      have bounded := meterWords_bounded size targets small (by simpa using unwritten) fine
      exact ⟨rfl, rfl, rfl, by omega⟩
  obtain ⟨control, rate, burst, credit⟩ := limits
  refine ⟨fun which => ?_, fun which => ?_, fun which => ?_, fun which => ?_⟩
  · rw [control]
    rw [which] at word ⊢
    exact word
  · rw [rate]
    rw [which] at word ⊢
    exact word
  · rw [burst]
    rw [which] at word ⊢
    exact word
  · rw [credit, burst]
    rw [which] at word ⊢
    rw [show (g.meterWords targets (i / 4)).credit = _ from word]
    rfl

/-- A hold that waits for a credit that was written, by the words written (R87, R115). -/
theorem waitsForCredit_eq {targets : List (Nat × Word)} (inside : ∀ iw ∈ targets, iw.1 < 64) (r : DecisionRecord) :
    waitsForCredit targets 16 r = (decide (r.action = some .forward) &&
      targets.any fun iw => decide (r.meter = some (iw.1 / 4) ∧ 2 ≤ iw.1 % 4)) := by
  unfold waitsForCredit DecisionRecord.forwards
  congr 1
  rw [Bool.eq_iff_iff]
  simp only [List.any_eq_true, List.mem_range, writesCredit, Bool.and_eq_true, beq_iff_eq, decide_eq_true_iff]
  constructor
  · rintro ⟨k, -, ⟨iw, mem, rfl, high⟩, names⟩
    exact ⟨iw, mem, names, high⟩
  · rintro ⟨iw, mem, names, high⟩
    exact ⟨iw.1 / 4, by have := inside iw mem; omega, ⟨iw, mem, rfl, high⟩, names⟩

/-! ## A WRITE that passes its checks (R129, R130) -/

theorem writeWindow_of_succeeds {g : Gateway} {ex : Execution} {ws : List Word} (succeeds : g.Succeeds ex (.write ws)) :
    g.writeWindow ws = .done .ok [] ws.length
      ((g.writeTable g.windowTable (writeTargets g.windowTable g.windowIndex ws)).moveWindow ws.length) := by
  obtain ⟨-, fails⟩ := id succeeds
  unfold Gateway.Fails at fails
  simp only [if_neg (checks_of_succeeds succeeds)] at fails
  have count : 1 ≤ ws.length ∧ ws.length ≤ 32 := by
    by_contra bad
    exact fails .badOperand (.inl ⟨bad, rfl⟩)
  obtain ⟨least, most⟩ := count
  have free := fun guarded => fails .protectedWord (.inr (.inl ⟨least, most, guarded, rfl⟩))
  have fine := fun refused => fails .badOperand (.inr (.inr (.inl ⟨least, most, free, refused, rfl⟩)))
  have formed := fun route bad => fails .badEntry (.inr (.inr (.inr ⟨least, most, free, fine, route, bad, rfl⟩)))
  unfold Gateway.writeWindow
  dsimp only
  rw [if_neg (by omega), if_neg fun any => free ((any_protected_iff g ws).mp any),
    if_neg fun any => fine ((any_refused_iff g ws).mp any), if_neg]
  rintro ⟨route, bad⟩
  exact formed route (by simpa [route] using bad)

end Sys2Proof.Machine
end

section
/-! SUPPORT. A WRITE applied: PORT words, and what stands after a WRITE of each table (R43, R73, R113, R129, R130). -/

open Sys2Proof

namespace Sys2Proof.Machine

/-! ## PORT words stored (R43) -/

/-- A port with other words. -/
def Port.withWords (q : Port) (w : PortWords) : Port := { q with words := w }

/-- The words of a port after a list of PORT words is stored (R43). -/
theorem storePortWords_port (targets : List (Nat × Word)) (g : Gateway) (p : PortId) :
    (targets.foldl Gateway.writePortWord g).port p =
      (g.port p).withWords ((targets.foldl Gateway.writePortWord g).port p).words := by
  refine foldl_induction (P := fun t : Gateway => t.port p = (g.port p).withWords (t.port p).words) targets rfl
    fun t iw _ before => ?_
  unfold Gateway.writePortWord
  rcases PortId.eq_or_other (portOfIndex iw.1) p with rfl | rfl
  · rw [Gateway.port_modPort_self, before]
    rfl
  · rw [Gateway.port_modPort_other]
    exact before

theorem storePortWords_allBut (targets : List (Nat × Word)) (g : Gateway) :
    AllBut [.portA, .portB] g (targets.foldl Gateway.writePortWord g) :=
  foldl_allBut (fun h _ => modPort_allBut_ports h _ _) targets g

theorem storePortWords_get (g : Gateway) {targets : List (Nat × Word)} (inside : ∀ iw ∈ targets, iw.1 < 16)
    (settings : ∀ iw ∈ targets, iw.1 % 8 ≠ 7) {i : Nat} (small : i < 16) (setting : i % 8 ≠ 7) :
    ((targets.foldl Gateway.writePortWord g).port (portOfIndex i)).words.get (i % 8) =
      ((lastFor targets i).map (· &&& portMask (i % 8))).getD ((g.port (portOfIndex i)).words.get (i % 8)) := by
  have below : ∀ n : Nat, n % 8 ≠ 7 → n % 8 < 7 := fun n h => by omega
  refine (foldl_lastFor (f := (· &&& portMask (i % 8))) (i := i)
    (get := fun t : Gateway => (t.port (portOfIndex i)).words.get (i % 8)) (P := fun _ => True)
    (step := Gateway.writePortWord) targets (s := g) trivial (fun _ _ _ _ => trivial) ?_ ?_).2
  · intro iw _ here t _
    unfold Gateway.writePortWord
    rw [here, Gateway.port_modPort_self]
    exact (words_get_set _ (below i setting) (below i setting) _).trans (if_pos rfl)
  · intro iw mem other t _
    unfold Gateway.writePortWord
    by_cases same : portOfIndex iw.1 = portOfIndex i
    · have index : i % 8 ≠ iw.1 % 8 := by
        unfold portOfIndex at same
        have first := inside iw mem
        split at same <;> split at same <;> first | omega | cases same
      rw [same, Gateway.port_modPort_self]
      exact (words_get_set _ (below i setting) (below _ (settings iw mem)) _).trans (if_neg index)
    · have opposite := (PortId.eq_or_other (portOfIndex iw.1) (portOfIndex i)).resolve_left (Ne.symm same)
      rw [opposite, Gateway.port_modPort_other]

/-! ## What follows a WRITE of PORT words keeps the words -/

theorem discardReply_serves (g : Gateway) (b : PoolBuffer) : g.Serves (g.discardReply b) :=
  (giveBack_serves g 1).trans ((promptAgent_serves _).trans ((evalPool_serves _).trans (reportEnd_serves _ b .flushed)))

theorem offerReply_serves (c : AgentEntry → Bool) (g : Gateway) : g.Serves (g.offerReply c) := by
  have queue : ∀ l, g.Serves { g with agentQueue := l } := fun l => serves_of_ports fun x => by cases x <;> rfl
  unfold Gateway.offerReply
  dsimp only
  repeat' split
  · exact .refl g
  · exact (queue _).trans ((modPort_serves _ _ fun q => enqueue_serves q _ _).trans (promptAgent_serves _))
  · exact queue _
  · exact (queue _).trans (discardReply_serves _ _)

theorem afterFlush_serves (g : Gateway) (p : PortId) (bs : List PoolBuffer) : g.Serves (g.afterFlush p bs) := by
  have counts : g.Serves (g.bump (portCounterIndex p .flushed) bs.length) :=
    serves_of_allBut (bump_allBut _ _ _) (by decide) (by decide)
  have returns : g.Serves (if bs.isEmpty then g.bump (portCounterIndex p .flushed) bs.length
      else ((g.bump (portCounterIndex p .flushed) bs.length).giveBack bs.length).promptEgress p) := by
    split
    · exact counts
    · exact counts.trans ((giveBack_serves _ _).trans (promptEgress_serves _ p))
  have reports : ∀ h : Gateway, h.Serves (bs.foldl (fun g b => g.reportEnd b .flushed) h) := fun h =>
    foldl_induction (P := fun t : Gateway => h.Serves t) bs (.refl h) fun t b _ before =>
      before.trans (reportEnd_serves t b .flushed)
  unfold Gateway.afterFlush
  exact returns.trans ((evalPool_serves _).trans ((reports _).trans ((offerReply_serves _ _).trans (offerReply_serves _ _))))

theorem promptActive_serves (g : Gateway) (p : PortId) : g.Serves (g.promptActive p) :=
  modPort_serves g p.other (promptIf_serves _)

theorem portWritten_words (g : Gateway) (p : PortId) (old : Port) (x : PortId) :
    ((g.portWritten p old).port x).words = (g.port x).words := by
  have mods : ∀ (h : Gateway) (f : Port → Port), (∀ q, (f q).words = q.words) →
      ((h.modPort p f).port x).words = (h.port x).words := fun h f keeps => by
    rcases PortId.eq_or_other p x with rfl | rfl
    · rw [Gateway.port_modPort_self, keeps]
    · rw [Gateway.port_modPort_other]
  have rated : ((if rateCode (g.port p).words.control ≠ rateCode old.words.control then g.modPort p Port.changeRate
      else g).port x).words = (g.port x).words := by
    split
    · exact mods g _ fun q => (changeRate_frame q).1
    · rfl
  unfold Gateway.portWritten
  dsimp only
  rw [← rated]
  generalize (if rateCode (g.port p).words.control ≠ rateCode old.words.control then g.modPort p Port.changeRate
    else g) = h
  split
  · unfold Gateway.goOnline
    dsimp only
    split
    · rw [(promptActive_serves _ _ x).words]
      exact mods h _ fun _ => rfl
    · exact mods h _ fun _ => rfl
  · split
    · rw [goOffline_eq, (afterFlush_serves _ _ _ x).words]
      exact mods h _ fun q => (flushed_frame q).1
    · rfl

/-- Where neither the rate nor the mode changes, a WRITE does nothing more to the port (R19, R43). -/
theorem portWritten_of_same {g : Gateway} {p : PortId} {old : Port}
    (rate : rateCode (g.port p).words.control = rateCode old.words.control)
    (mode : (g.port p).words.modeOnline = old.online) : g.portWritten p old = g := by
  unfold Gateway.portWritten
  dsimp only
  rw [if_neg (not_not.mpr rate), if_neg, if_neg]
  · rw [mode]
    simp
  · rw [mode]
    rintro ⟨offline, online⟩
    simp [Port.online, offline] at online

theorem writePort_words (g : Gateway) (targets : List (Nat × Word)) (x : PortId) :
    ((g.writePort targets).port x).words = ((targets.foldl Gateway.writePortWord g).port x).words := by
  unfold Gateway.writePort
  rw [portWritten_words, portWritten_words]

theorem writePort_of_same {g : Gateway} {targets : List (Nat × Word)}
    (rate : ∀ x, rateCode ((g.writePort targets).port x).words.control = rateCode (g.port x).words.control)
    (mode : ∀ x, ((g.writePort targets).port x).words.modeOnline = (g.port x).online) :
    g.writePort targets = targets.foldl Gateway.writePortWord g := by
  simp only [writePort_words] at rate mode
  unfold Gateway.writePort
  rw [portWritten_of_same (rate .a) (mode .a), portWritten_of_same (rate .b) (mode .b)]

/-! ## A WRITE applied (R123, R129) -/

/-- The part once a WRITE has been applied and the next operation is current (R123, R129). -/
def Gateway.wrote (g : Gateway) (ex : Execution) (n : Nat) : Gateway :=
  { g.moveWindow n with exec := some (ex.after .ok [] n) }

theorem wrote_allBut (g : Gateway) (ex : Execution) (n : Nat) : AllBut [.exec, .window] g (g.wrote ex n) :=
  ((moveWindow_allBut g n).mono (by decide)).trans ((withExec_allBut _ _).mono (by decide))

theorem wrote_port (g : Gateway) (ex : Execution) (n : Nat) (x : PortId) : (g.wrote ex n).port x = g.port x := by
  cases x <;> rfl

theorem wrote_meter (g : Gateway) (ex : Execution) (n k : Nat) : (g.wrote ex n).meter k = g.meter k := rfl

theorem wrote_nothingAged {g : Gateway} (young : g.NothingAged) (ex : Execution) (n : Nat) : (g.wrote ex n).NothingAged :=
  fun x => by
    rw [wrote_port]
    exact young x

theorem write_effect {g : Gateway} {ex : Execution} {ws : List Word} (succeeds : g.Succeeds ex (.write ws))
    (more : ex.ops.tail ≠ []) :
    effect .write g =
      ((g.writeTable g.windowTable (writeTargets g.windowTable g.windowIndex ws)).wrote ex ws.length).settle := by
  have access := access_of_succeeds succeeds
  rw [show Instr.write = Op.command 0 (.write ws) from rfl, effect_command succeeds.1 (by simp)]
  have done := runOp_of_done g _ true (g.opBody 0 (.write ws)) ex _ _ ws.length succeeds.1.1 access (writeWindow_of_succeeds succeeds)
  rw [finishOp_of_more _ _ _ _ _ more] at done
  exact done

/-- The execution and the window after a WRITE, whatever its table (R129). -/
theorem wrote_window {g : Gateway} {t : Table} (targets : List (Nat × Word)) (ex : Execution) (n : Nat) :
    ((g.writeTable t targets).wrote ex n).settle.exec = some (ex.after .ok [] n) ∧
      ((g.writeTable t targets).wrote ex n).settle.windowTable = g.windowTable ∧
      ((g.writeTable t targets).wrote ex n).settle.windowIndex = (g.windowIndex + n) % g.windowTable.size := by
  have settles := settle_allBut ((g.writeTable t targets).wrote ex n)
  have exec : ((g.writeTable t targets).wrote ex n).settle.exec = _ := settles .exec (by decide)
  obtain ⟨table, index⟩ : Part.Same _ _ .window := settles .window (by decide)
  obtain ⟨tableKept, indexKept⟩ : Part.Same g (g.writeTable t targets) .window :=
    writeTable_allBut g t targets .window (by cases t <;> decide)
  refine ⟨exec, table.trans tableKept, index.trans ?_⟩
  show ((g.writeTable t targets).windowIndex + n) % (g.writeTable t targets).windowTable.size = _
  rw [tableKept, indexKept]

/-- A WRITE that leaves no selection to take: the whole effect is on the parts its table's write touches. -/
theorem wrote_settle {g h : Gateway} {l : List Part} (frame : AllBut l g h) (settled : h.Settled) (ex : Execution) (n : Nat) :
    AllBut (.exec :: .window :: l) g (h.wrote ex n).settle ∧ (h.wrote ex n).settle = h.wrote ex n := by
  have still : (h.wrote ex n).settle = h.wrote ex n := settle_of_settled _ (settled_of_same (g := h) rfl rfl settled)
  rw [still]
  refine ⟨(frame.mono fun x inside => ?_).trans ((wrote_allBut h ex n).mono (by simp)), rfl⟩
  exact List.mem_cons_of_mem _ (List.mem_cons_of_mem _ inside)

section Tables

variable {g : Gateway} {t0 : Table} {i : Nat} (targets : List (Nat × Word)) (ex : Execution) (n : Nat)

theorem write_group (settled : g.Settled) (table : t0 = .group) (size : g.group.length = 8) (inside : i < t0.size) :
    AllBut [.exec, .window, .group] g ((g.writeTable t0 targets).wrote ex n).settle ∧
      ((g.writeTable t0 targets).wrote ex n).settle.group.getD i 0 = lastWritten targets i (g.tableWord t0 i) := by
  subst table
  obtain ⟨frame, still⟩ := wrote_settle (writeTable_allBut g .group targets) (settled_of_same (g := g) rfl rfl settled) ex n
  refine ⟨frame, ?_⟩
  rw [still]
  exact foldl_set_lastWritten targets (by rw [size]; exact inside)

theorem write_route (settled : g.Settled) (table : t0 = .route) (size : g.route.length = 768)
    (formed : routeWellFormed (writeRouteWords g.route targets) = true) (inside : i < t0.size) :
    AllBut [.exec, .window, .route] g ((g.writeTable t0 targets).wrote ex n).settle ∧
      routeWellFormed ((g.writeTable t0 targets).wrote ex n).settle.route = true ∧
      ((g.writeTable t0 targets).wrote ex n).settle.route.getD i 0 =
        if i % 12 = 11 ∧ ∃ iw ∈ targets, iw.1 = i then 0 else lastWritten targets i (g.tableWord t0 i) := by
  subst table
  obtain ⟨frame, still⟩ := wrote_settle (writeTable_allBut g .route targets) (settled_of_same (g := g) rfl rfl settled) ex n
  refine ⟨frame, ?_⟩
  rw [still]
  exact ⟨formed, writeRouteWords_getD targets (by rw [size]; exact inside)⟩

/-- The part with the words of GENERAL written, its conditions not yet re-evaluated (R129). -/
def Gateway.generalWritten (g : Gateway) (targets : List (Nat × Word)) : Gateway :=
  { g with general := targets.foldl (fun (w : General) (iw : Nat × Word) => w.set iw.1 iw.2) g.general }

theorem write_general (settled : g.Settled) (table : t0 = .general) (within : ∀ iw ∈ targets, iw.1 < t0.size)
    (inside : i < t0.size) :
    ((g.writeTable t0 targets).wrote ex n).settle.general.get i = lastWritten targets i (g.tableWord t0 i) ∧
      AllBut (.exec :: .window :: .general :: latchParts) g ((g.writeTable t0 targets).wrote ex n).settle := by
  subst table
  have still : (g.generalWritten targets).Settled := settled_of_same (g := g) rfl rfl settled
  have young : (g.writeTable .general targets).NothingAged :=
    (evalPool_sendsOnly (g.generalWritten targets)).keeps_nothingAged still.nothingAged
  obtain ⟨selects, -⟩ := settle_of_nothingAged _ (wrote_nothingAged young ex n)
  have evaluated : (g.writeTable .general targets).general = (g.generalWritten targets).general :=
    evalPool_allBut (g.generalWritten targets) .general (by decide)
  have kept : ((g.writeTable .general targets).wrote ex n).settle.general = (g.writeTable .general targets).general :=
    selects .general (by decide)
  have writes : AllBut (.general :: latchParts) g (g.writeTable .general targets) := writeTable_allBut g .general targets
  have runs := wrote_allBut (g.writeTable .general targets) ex n
  generalize ((g.writeTable .general targets).wrote ex n).settle = t at kept selects ⊢
  refine ⟨?_, (writes.mono (by decide)).trans ((runs.mono (by decide)).trans (selects.mono (by decide)))⟩
  rw [kept, evaluated]
  exact foldl_general_lastWritten g.general within inside

theorem write_meter (settled : g.Settled) (table : t0 = .meter) (size : g.meters.length = 16) (ok : ∀ m ∈ g.meters, m.Ok)
    (within : ∀ iw ∈ targets, iw.1 < t0.size) (inside : i < t0.size) :
    AllBut [.exec, .window, .meters, .portA, .portB] g ((g.writeTable t0 targets).wrote ex n).settle ∧
      (i % 4 = 0 → (((g.writeTable t0 targets).wrote ex n).settle.meter (i / 4)).control =
        lastWritten targets i (g.tableWord t0 i) &&& 0x8003) ∧
      (i % 4 = 1 → (((g.writeTable t0 targets).wrote ex n).settle.meter (i / 4)).rate =
        lastWritten targets i (g.tableWord t0 i)) ∧
      (i % 4 = 2 → (((g.writeTable t0 targets).wrote ex n).settle.meter (i / 4)).burst =
        lastWritten targets i (g.tableWord t0 i)) ∧
      (i % 4 = 3 → (((g.writeTable t0 targets).wrote ex n).settle.meter (i / 4)).credit.toNat =
        min (lastWritten targets i (g.tableWord t0 i)).toNat
          (((g.writeTable t0 targets).wrote ex n).settle.meter (i / 4)).burst.toNat) ∧
      ∀ x timer retest r, (g.port x).role = .holding timer retest → (g.port x).record = some r →
        (((g.writeTable t0 targets).wrote ex n).settle.port x).role =
          .holding timer (retest || (decide (r.action = some .forward) &&
            targets.any fun iw => decide (r.meter = some (iw.1 / 4) ∧ 2 ≤ iw.1 % 4))) := by
  subst table
  have ports := (writeMeters_outcome size targets).2
  have ready : ∀ x, ((g.writeMeters targets).port x).Settled := fun x => by
    rw [ports]
    exact promptIf_settled (settled.port x)
  have still : (g.writeTable .meter targets).Settled := ⟨ready .a, ready .b⟩
  obtain ⟨frame, same⟩ := wrote_settle (writeTable_allBut g .meter targets) still ex n
  obtain ⟨control, rate, burst, credit⟩ := writeMeters_words size ok targets inside
  refine ⟨frame, ?_⟩
  rw [same]
  simp only [wrote_meter, wrote_port]
  refine ⟨control, rate, burst, credit, fun x timer retest r role record => ?_⟩
  rw [show (g.writeTable .meter targets).port x = _ from ports x, promptIf_of_holding role record, waitsForCredit_eq within]

theorem write_port (settled : g.Settled) (table : t0 = .port) (rangeA : g.portA.words.InRange) (rangeB : g.portB.words.InRange)
    (settings : ∀ iw ∈ targets, iw.1 % 8 ≠ 7)
    (within : ∀ iw ∈ targets, iw.1 < t0.size) (inside : i < t0.size) (setting : i % 8 ≠ 7) :
    (((g.writeTable t0 targets).wrote ex n).settle.port (portOfIndex i)).words.get (i % 8) =
        lastWritten targets i (g.tableWord t0 i) &&& portMask (i % 8) ∧
      ((∀ x : PortId, (((g.writeTable t0 targets).wrote ex n).settle.port x).words.modeOnline = (g.port x).words.modeOnline ∧
          rateCode (((g.writeTable t0 targets).wrote ex n).settle.port x).words.control =
            rateCode (g.port x).words.control ∧
          (g.port x).words.modeOnline = (g.port x).online ∧ (g.port x).state ≠ .starting) →
        AllBut [.exec, .window, .portA, .portB] g ((g.writeTable t0 targets).wrote ex n).settle ∧
          ((g.writeTable t0 targets).wrote ex n).settle.port (portOfIndex i) =
            (g.port (portOfIndex i)).withWords
              (((g.writeTable t0 targets).wrote ex n).settle.port (portOfIndex i)).words) := by
  subst table
  have words : ∀ x, (((g.writeTable .port targets).wrote ex n).settle.port x).words = ((g.writePort targets).port x).words :=
    fun x => by
      rw [(settle_serves _ x).words, wrote_port]
      rfl
  refine ⟨?_, fun same => ?_⟩
  · have fixed : (g.port (portOfIndex i)).words.get (i % 8) &&& portMask (i % 8) = (g.port (portOfIndex i)).words.get (i % 8) := by
      have range : (g.port (portOfIndex i)).words.InRange := by
        cases portOfIndex i
        · exact rangeA
        · exact rangeB
      exact (range (i % 8) (by omega)).2
    have read : g.tableWord .port i = (g.port (portOfIndex i)).words.get (i % 8) := if_neg setting
    rw [words, writePort_words, storePortWords_get g within settings inside setting, lastWritten_eq, read]
    exact getD_map_of_fixed (f := (· &&& portMask (i % 8))) fixed _
  · have stores : g.writeTable .port targets = targets.foldl Gateway.writePortWord g := writePort_of_same
      (fun x => by rw [← words]; exact (same x).2.1)
      (fun x => by rw [← words]; exact (same x).1.trans (same x).2.2.1)
    have ready : ∀ x, ((g.writeTable .port targets).port x).Settled := fun x => by
      rw [stores, storePortWords_port]
      exact settled.port x
    have still : (g.writeTable .port targets).Settled := ⟨ready .a, ready .b⟩
    have frame : AllBut [.portA, .portB] g (g.writeTable .port targets) := by
      rw [stores]
      exact storePortWords_allBut targets g
    obtain ⟨whole, settles⟩ := wrote_settle frame still ex n
    refine ⟨whole, ?_⟩
    rw [settles, wrote_port, stores]
    exact storePortWords_port targets g (portOfIndex i)

end Tables

/-- Settles O44, a table at a time. -/
theorem writeAppliesItsWords : Obligations.WriteAppliesItsWords := by
  intro s ex ws i succeeds settled more inside t0 targets new
  obtain ⟨-, -, -, -, -, open_, inRange, formed, -⟩ := writeWindow_done (writeWindow_of_succeeds succeeds)
  have within : ∀ iw ∈ targets, iw.1 < t0.size := fun iw => writeTargets_inside
  have settings : t0 = .port → ∀ iw ∈ targets, iw.1 % 8 ≠ 7 := fun port iw mem view => by
    have shut := open_ iw mem
    rw [show s.gw.windowTable = .port from port] at shut
    simp [Gateway.protectedTarget, view] at shut
  obtain ⟨exec, tableKept, indexKept⟩ := wrote_window (g := s.gw) (t := t0) targets ex ws.length
  have group := write_group (i := i) targets ex ws.length settled (t0 := t0)
  have route := write_route (i := i) targets ex ws.length settled (t0 := t0)
  have general := write_general (i := i) targets ex ws.length settled (t0 := t0)
  have meter := write_meter (i := i) targets ex ws.length settled (t0 := t0)
  have port := write_port (i := i) targets ex ws.length settled (t0 := t0)
  have writes : effect .write s.gw = ((s.gw.writeTable t0 targets).wrote ex ws.length).settle := write_effect succeeds more
  refine exec_of_effect (c := .write) ⟨rfl, ?_⟩
  rw [writes]
  generalize ((s.gw.writeTable t0 targets).wrote ex ws.length).settle = t at *
  exact ⟨exec, tableKept, indexKept, fun table size => group table size inside,
    fun table size => route table size (formed table) inside,
    fun table => general table within inside,
    fun table size ok => meter table size ok within inside,
    fun table rangeA rangeB setting => port table rangeA rangeB (settings table) within inside setting⟩

end Sys2Proof.Machine
end

section
/-! SUPPORT. A WRITE of the mode: PORT_OFFLINE and PORT_ONLINE (R19, R21, R22, R49, R63, R87, R126). -/

open Sys2Proof

namespace Sys2Proof.Machine

/-! ## Buffers that return with nothing else asked for (R49, R87) -/

/-- So many buffers have returned: each return marks every hold for its re-test (R49, R87). -/
structure Freed (n : Nat) (g t : Gateway) : Prop where
  frame : AllBut [.portA, .portB, .free, .agentQueue, .restart, .monitor] g t
  port : ∀ x, t.port x = Port.promptIf (fun _ => decide (0 < n)) (g.port x)
  free : t.free = g.free + n

theorem Freed.refl (g : Gateway) : Freed 0 g g :=
  ⟨.refl _ g, fun x => (promptIf_never (g.port x)).symm, rfl⟩

theorem Freed.trans {m n : Nat} {g h t : Gateway} (first : Freed m g h) (second : Freed n h t) : Freed (m + n) g t := by
  refine ⟨first.frame.trans second.frame, fun x => ?_, by rw [second.free, first.free, Nat.add_assoc]⟩
  have either : (decide (0 < m) || decide (0 < n)) = decide (0 < m + n) := by
    rw [← Bool.decide_or]
    exact decide_eq_decide.mpr (by omega)
  rw [second.port, first.port, promptIf_promptIf, either]

/-- What moves neither the ports nor the free list leaves what has returned. -/
theorem Freed.onward {n : Nat} {g h t : Gateway} (freed : Freed n g h) (frame : AllBut [.agentQueue, .restart, .monitor] h t) :
    Freed n g t := by
  have free : t.free = h.free := frame .free (by decide)
  exact ⟨freed.frame.trans (frame.mono (by decide)), fun x => (port_of_allBut frame (by decide) (by decide) x).trans
    (freed.port x), free.trans freed.free⟩

/-- The steps of a return report to nobody else: notices and pool pause are off. -/
def Gateway.Quiet (g : Gateway) : Prop := g.general.noticeEnable = false ∧ g.general.poolPause = false

theorem Gateway.Quiet.of_frame {g t : Gateway} {l : List Part} (quiet : g.Quiet) (frame : AllBut l g t) (general : .general ∉ l) :
    t.Quiet := by
  have same : t.general = g.general := frame .general general
  rwa [Gateway.Quiet, same]

theorem giveBack_freed (g : Gateway) {n : Nat} (some : 0 < n) : Freed n g (g.giveBack n) := by
  refine ⟨(giveBack_allBut g n).mono (by decide), fun x => ?_, giveBack_free g n⟩
  rw [Gateway.giveBack, Gateway.promptReturn, modBoth_port, decide_eq_true some]
  cases x <;> rfl

/-- The first reply that waits for a port which is not ONLINE is discarded (R49, R126). -/
theorem discardReply_freed {g : Gateway} (quiet : g.Quiet) (b : PoolBuffer) :
    Freed 1 g (g.discardReply b) ∧ (g.discardReply b).agentQueue = g.agentQueue := by
  have gives := giveBack_freed g Nat.one_pos
  have prompts : Freed 1 g (g.giveBack 1).promptAgent := by
    refine ⟨gives.frame.trans ((promptAgent_allBut _).mono (by decide)), fun x => ?_, ?_⟩
    · rw [promptAgent_port, gives.port, promptIf_promptIf]
      simp
    · have kept : (g.giveBack 1).promptAgent.free = (g.giveBack 1).free := promptAgent_allBut _ .free (by decide)
      rw [kept, gives.free]
  have queue : (g.giveBack 1).promptAgent.agentQueue = g.agentQueue :=
    ((giveBack_allBut g 1).trans ((promptAgent_allBut _).mono (by decide))) .agentQueue (by decide)
  have still := quiet.of_frame prompts.frame (by decide)
  unfold Gateway.discardReply
  generalize (g.giveBack 1).promptAgent = h at prompts queue still ⊢
  have pool := evalPool_of_off_allBut still.1 still.2
  have reports := (reportEnd_frame (still.of_frame pool (by decide)).1 b .flushed).1
  have rest : AllBut [.restart, .monitor] h (h.evalPool.reportEnd b .flushed) := (pool.mono (by decide)).trans reports
  have kept : (h.evalPool.reportEnd b .flushed).agentQueue = h.agentQueue := rest .agentQueue (by decide)
  exact ⟨prompts.onward (rest.mono (by decide)), kept.trans queue⟩

/-! ## The replies that wait for a port (R126) -/

theorem removeFirst_of_none {c : AgentEntry → Bool} {l : List AgentEntry} (none : l.countP c = 0) : removeFirst c l = l := by
  induction l with
  | nil => rfl
  | cons e rest ih =>
    rw [List.countP_cons] at none
    have skip : ¬ c e = true := fun meets => by simp [meets] at none
    rw [removeFirst, if_neg skip, ih (by omega)]

theorem countP_removeFirst_self (c : AgentEntry → Bool) (l : List AgentEntry) :
    (removeFirst c l).countP c = l.countP c - 1 := by
  cases found : l.find? c with
  | none =>
    have none := countP_eq_zero_of_find?_none found
    rw [removeFirst_of_none none, none]
  | some e =>
    have counted := countP_removeFirst (P := c) found
    rw [if_pos (List.find?_some found)] at counted
    omega

theorem filter_removeFirst (c : AgentEntry → Bool) (l : List AgentEntry) :
    (removeFirst c l).filter (fun e => !c e) = l.filter fun e => !c e := by
  induction l with
  | nil => rfl
  | cons e rest ih =>
    by_cases meets : c e = true
    · rw [removeFirst, if_pos meets, List.filter_cons, if_neg (by simp [meets])]
    · rw [removeFirst, if_neg meets, List.filter_cons, List.filter_cons, ih]

/-- Marking the waiting entries for a re-offer changes neither which wait nor the others (R126). -/
theorem offersDue_filter (p : PortId) (l : List AgentEntry) :
    (offersDue p l).filter (fun e => !AgentEntry.waitsOn p e) = l.filter (fun e => !AgentEntry.waitsOn p e) ∧
      (offersDue p l).countP (AgentEntry.waitsOn p) = l.countP (AgentEntry.waitsOn p) := by
  have same : ∀ e : AgentEntry, AgentEntry.waitsOn p (if e.waitsOn p then { e with offerDue := true } else e) =
      AgentEntry.waitsOn p e := fun e => by
    split <;> rfl
  induction l with
  | nil => exact ⟨rfl, rfl⟩
  | cons e rest ih =>
    obtain ⟨kept, counted⟩ := ih
    have mark : offersDue p (e :: rest) = (if e.waitsOn p then { e with offerDue := true } else e) :: offersDue p rest := rfl
    rw [mark, List.filter_cons, List.countP_cons, List.filter_cons, List.countP_cons, same, kept, counted]
    refine ⟨?_, rfl⟩
    by_cases waits : e.waitsOn p = true
    · rw [if_neg (by simp [waits]), if_neg (by simp [waits])]
    · rw [if_neg waits]

/-- One reply that waits for a port which is not ONLINE is discarded, when one waits (R126). -/
theorem offerWaiting_freed {g : Gateway} (quiet : g.Quiet) {p : PortId} (out : (g.port p).online = false) :
    Freed (min 1 (g.agentQueue.countP (AgentEntry.waitsOn p))) g (g.offerReply (AgentEntry.waitsOn p)) ∧
      (g.offerReply (AgentEntry.waitsOn p)).agentQueue = removeFirst (AgentEntry.waitsOn p) g.agentQueue := by
  cases found : g.agentQueue.find? (AgentEntry.waitsOn p) with
  | none =>
    have none : g.agentQueue.countP (AgentEntry.waitsOn p) = 0 :=
      countP_eq_zero_of_find?_none found
    have same : g.offerReply (AgentEntry.waitsOn p) = g := by
      rw [Gateway.offerReply, found]
    rw [same, none, removeFirst_of_none none]
    exact ⟨.refl g, rfl⟩
  | some e =>
    have waits := List.find?_some found
    have ingress : e.buf.ingress = p := by
      simp only [AgentEntry.waitsOn, Bool.and_eq_true, decide_eq_true_eq] at waits
      exact waits.2
    have some : 0 < g.agentQueue.countP (AgentEntry.waitsOn p) :=
      List.countP_pos_iff.mpr ⟨e, List.mem_of_find?_eq_some found, waits⟩
    rw [offerReply_discarded found (by rw [ingress]; exact out), show min 1 (List.countP _ _) = 1 by omega]
    have removes : AllBut [.agentQueue] g { g with agentQueue := removeFirst (AgentEntry.waitsOn p) g.agentQueue } :=
      .of_same fun x => by cases x <;> simp [Part.Same]
    obtain ⟨freed, queue⟩ := discardReply_freed (quiet.of_frame removes (by decide)) e.buf
    exact ⟨by simpa using ((Freed.refl g).onward (removes.mono (by decide))).trans freed, queue⟩

/-- Both replies that may wait for a port which is not ONLINE are discarded (R126, entry 21). -/
theorem offerBoth_freed {g : Gateway} (quiet : g.Quiet) {p : PortId} (out : (g.port p).online = false)
    (few : g.agentQueue.countP (AgentEntry.waitsOn p) ≤ 2) :
    Freed (g.agentQueue.countP (AgentEntry.waitsOn p)) g
        ((g.offerReply (AgentEntry.waitsOn p)).offerReply (AgentEntry.waitsOn p)) ∧
      ((g.offerReply (AgentEntry.waitsOn p)).offerReply (AgentEntry.waitsOn p)).agentQueue =
        g.agentQueue.filter fun e => !AgentEntry.waitsOn p e := by
  obtain ⟨first, queue⟩ := offerWaiting_freed quiet out
  generalize g.offerReply (AgentEntry.waitsOn p) = h at first queue ⊢
  have outStill : (h.port p).online = false := by
    rw [first.port, Port.online, promptIf_state]
    exact out
  obtain ⟨second, last⟩ := offerWaiting_freed (quiet.of_frame first.frame (by decide)) outStill
  have left := countP_removeFirst_self (AgentEntry.waitsOn p) g.agentQueue
  have none : (removeFirst (AgentEntry.waitsOn p) h.agentQueue).countP (AgentEntry.waitsOn p) = 0 := by
    rw [countP_removeFirst_self, queue, left]
    omega
  refine ⟨?_, ?_⟩
  · have both := first.trans second
    rwa [queue, left, show ∀ k, k ≤ 2 → min 1 k + min 1 (k - 1) = k from fun k _ => by omega] at both
    exact few
  · rw [last, ← filter_removeFirst, ← queue, ← filter_removeFirst, eq_comm, List.filter_eq_self]
    intro e mem
    have free := List.countP_eq_zero.mp none e mem
    simpa using free

/-! ## A port taken OFFLINE (R21, R49, R63) -/

/-- The port as it stands once it is OFFLINE; the ports, the pool and the queue as its buffers' return leaves them. -/
structure WentOffline (g : Gateway) (p : PortId) (t : Gateway) : Prop where
  frame : AllBut [.portA, .portB, .free, .counters, .agentQueue, .restart, .monitor] g t
  own : t.port p = (g.port p).flushed
  other : t.port p.other = Port.promptIf
    (fun _ => decide (0 < (g.port p).egressCount + g.agentQueue.countP (AgentEntry.waitsOn p))) (g.port p.other)
  counters : t.counters = g.counters.set (portCounterIndex p .flushed)
    (g.counters.getD (portCounterIndex p .flushed) 0 + BitVec.ofNat 16 (g.port p).egressCount)
  free : t.free = g.free + (g.port p).egressCount + g.agentQueue.countP (AgentEntry.waitsOn p)
  queue : t.agentQueue = g.agentQueue.filter fun e => !AgentEntry.waitsOn p e

/-- The buffers of a flushed port return, and the replies that wait for it are due (R49, R53, R126). -/
theorem flushReturns_freed {g : Gateway} (quiet : g.Quiet) (p : PortId) (bs : List PoolBuffer) :
    let t := bs.foldl (fun g b => g.reportEnd b .flushed)
      (if bs.isEmpty then g else (g.giveBack bs.length).promptEgress p).evalPool
    Freed bs.length g t ∧ (t.agentQueue = g.agentQueue ∨ t.agentQueue = offersDue p g.agentQueue) := by
  have reports : ∀ h : Gateway, h.Quiet →
      AllBut [.agentQueue, .restart, .monitor] h (bs.foldl (fun g b => g.reportEnd b .flushed) h.evalPool) ∧
        (bs.foldl (fun g b => g.reportEnd b .flushed) h.evalPool).agentQueue = h.agentQueue := fun h still => by
    have pool := evalPool_of_off_allBut still.1 still.2
    have ends : AllBut [.restart, .monitor] h (bs.foldl (fun g b => g.reportEnd b .flushed) h.evalPool) :=
      foldl_induction (P := fun t : Gateway => AllBut [.restart, .monitor] h t) bs (pool.mono (by decide)) fun t b _ before =>
        before.trans (reportEnd_frame (still.of_frame before (by decide)).1 b .flushed).1
    exact ⟨ends.mono (by decide), ends .agentQueue (by decide)⟩
  intro t
  by_cases none : bs.isEmpty = true
  · have nothing : bs.length = 0 := by simpa using none
    obtain ⟨frame, queue⟩ := reports g quiet
    have is : t = bs.foldl (fun g b => g.reportEnd b .flushed) g.evalPool := by
      show bs.foldl _ (if bs.isEmpty = true then g else _).evalPool = _
      rw [if_pos none]
    rw [is, nothing]
    exact ⟨(Freed.refl g).onward frame, .inl queue⟩
  · have some : 0 < bs.length := List.length_pos_iff.mpr (by simpa using none)
    have returns : Freed bs.length g ((g.giveBack bs.length).promptEgress p) := by
      have gives := giveBack_freed g some
      refine ⟨gives.frame.trans ((promptEgress_allBut _ p).mono (by cases p <;> decide)), fun x => ?_, ?_⟩
      · rw [returned_ports, decide_eq_true some]
      · have kept : ((g.giveBack bs.length).promptEgress p).free = (g.giveBack bs.length).free :=
          promptEgress_allBut _ p .free (by cases p <;> decide)
        rw [kept, gives.free]
    obtain ⟨frame, queue⟩ := reports _ (quiet.of_frame returns.frame (by decide))
    have is : t = bs.foldl (fun g b => g.reportEnd b .flushed) ((g.giveBack bs.length).promptEgress p).evalPool := by
      show bs.foldl _ (if bs.isEmpty = true then g else _).evalPool = _
      rw [if_neg none]
    have marked : ((g.giveBack bs.length).promptEgress p).agentQueue = offersDue p (g.giveBack bs.length).agentQueue := by
      simp [Gateway.promptEgress, offersDue]
    have kept : (g.giveBack bs.length).agentQueue = g.agentQueue := giveBack_allBut g _ .agentQueue (by decide)
    rw [is]
    exact ⟨returns.onward frame, .inr (by rw [queue, marked, kept])⟩

theorem flushed_isHolding (q : Port) : q.flushed.isHolding = false := endClaim_free q.stopSending

theorem goOffline_wentOffline {g : Gateway} (quiet : g.Quiet) (p : PortId) (few : g.agentQueue.length ≤ 2) :
    WentOffline g p (g.goOffline p) := by
  have waiting : g.agentQueue.countP (AgentEntry.waitsOn p) ≤ 2 := (List.countP_le_length ..).trans few
  have flushes := modPort_allBut_ports g p Port.flushed
  have own : (g.modPort p Port.flushed).port p = (g.port p).flushed := Gateway.port_modPort_self _ _ _
  have other : (g.modPort p Port.flushed).port p.other = g.port p.other := Gateway.port_modPort_other _ _ _
  have counts := bump_allBut (g.modPort p Port.flushed) (portCounterIndex p .flushed) (g.port p).buffers.length
  have before : AllBut [.portA, .portB, .counters] g
      ((g.modPort p Port.flushed).bump (portCounterIndex p .flushed) (g.port p).buffers.length) :=
    (flushes.mono (by decide)).trans (counts.mono (by decide))
  have ports := port_of_allBut counts (by decide) (by decide)
  have counters : ((g.modPort p Port.flushed).bump (portCounterIndex p .flushed) (g.port p).buffers.length).counters =
      g.counters.set (portCounterIndex p .flushed)
        (g.counters.getD (portCounterIndex p .flushed) 0 + BitVec.ofNat 16 (g.port p).buffers.length) := by
    rw [Gateway.counters_bump, Gateway.counters_modPort]
  rw [goOffline_eq, Gateway.afterFlush]
  generalize (g.modPort p Port.flushed).bump (portCounterIndex p .flushed) (g.port p).buffers.length = h
    at before ports counters ⊢
  have free : h.free = g.free := before .free (by decide)
  have queueKept : h.agentQueue = g.agentQueue := before .agentQueue (by decide)
  have still := quiet.of_frame before (by decide)
  obtain ⟨returned, queue⟩ := flushReturns_freed still p (g.port p).buffers
  generalize List.foldl _ _ _ = r at returned queue ⊢
  have same : r.agentQueue.countP (AgentEntry.waitsOn p) = g.agentQueue.countP (AgentEntry.waitsOn p) ∧
      r.agentQueue.filter (fun e => !AgentEntry.waitsOn p e) = g.agentQueue.filter (fun e => !AgentEntry.waitsOn p e) := by
    rw [← queueKept]
    rcases queue with kept | marked
    · rw [kept]
      exact ⟨rfl, rfl⟩
    · rw [marked]
      exact ⟨(offersDue_filter p _).2, (offersDue_filter p _).1⟩
  have out : (r.port p).online = false := by
    rw [returned.port, Port.online, promptIf_state, ports, own]
    rfl
  obtain ⟨discards, last⟩ := offerBoth_freed (still.of_frame returned.frame (by decide)) out (by rw [same.1]; exact waiting)
  rw [same.1] at discards
  rw [same.2] at last
  have all := returned.trans discards
  rw [Port.buffers_length] at all counters
  have countersKept : Gateway.counters (Gateway.offerReply _ _) = h.counters := all.frame .counters (by decide)
  refine ⟨(before.mono (by decide)).trans (all.frame.mono (by decide)), ?_, ?_, countersKept.trans counters, ?_, last⟩
  · rw [all.port, ports, own, promptIf_of_free (.inl (flushed_isHolding _))]
  · rw [all.port, ports, other]
  · rw [all.free, free, Nat.add_assoc]

end Sys2Proof.Machine
end

section
/-! SUPPORT. A WRITE of one mode word, and the commands PORT_OFFLINE and PORT_ONLINE (R19, R21, R22, R43, R49, R63, R87). -/

open Sys2Proof

namespace Sys2Proof.Machine

/-! ## One word 0 written (R43, R129) -/

/-- The part with word 0 of a port stored. -/
def Gateway.modeStored (g : Gateway) (p : PortId) (v : Word) : Gateway :=
  g.modPort p fun q => q.withWords (q.words.set 0 v)

theorem modeStored_port (g : Gateway) (p : PortId) (v : Word) :
    (g.modeStored p v).port p = (g.port p).withWords ((g.port p).words.set 0 v) := Gateway.port_modPort_self _ _ _

theorem modeStored_other (g : Gateway) (p : PortId) (v : Word) : (g.modeStored p v).port p.other = g.port p.other :=
  Gateway.port_modPort_other _ _ _

theorem modeStored_allBut (g : Gateway) (p : PortId) (v : Word) : AllBut [.portA, .portB] g (g.modeStored p v) :=
  modPort_allBut_ports g p _

/-- Word 0 of a port keeps the mode, the rate and the settings of the word written (R43, R185). -/
theorem modeWord (w : PortWords) (v : Word) :
    (w.set 0 v).control = v &&& 0xB331 ∧ (w.set 0 v).modeOnline = v.getLsbD 15 ∧ rateCode (w.set 0 v).control = rateCode v := by
  refine ⟨rfl, ?_, (rateCode_set w 0 v).trans (if_pos rfl)⟩
  show (v &&& 0xB331).getLsbD 15 = _
  simp

/-- The index of a port's word 0 (R42). -/
def modeIndex (p : PortId) : Nat := if p = .a then 0 else 8

theorem modeTargets (p : PortId) (v : Word) : writeTargets .port (modeIndex p) [v] = [(modeIndex p, v)] := by
  cases p <;> rfl

theorem storePortWords_mode (g : Gateway) (p : PortId) (v : Word) :
    [(modeIndex p, v)].foldl Gateway.writePortWord g = g.modeStored p v := by
  have index : portOfIndex (modeIndex p) = p ∧ modeIndex p % 8 = 0 := by cases p <;> decide
  show g.modPort (portOfIndex (modeIndex p)) (fun q => q.withWords (q.words.set (modeIndex p % 8) v)) = _
  rw [index.1, index.2]
  rfl

/-- The mode word of one port leaves the other port, whose mode and rate stand (R19, R43). -/
theorem writePort_mode {g : Gateway} {p : PortId} (steady : (g.port p.other).words.modeOnline = (g.port p.other).online)
    (v : Word) : g.writePort [(modeIndex p, v)] = (g.modeStored p v).portWritten p (g.port p) := by
  have other : ∀ h : Gateway, (h.port p.other).words = (g.port p.other).words →
      h.portWritten p.other (g.port p.other) = h := fun h same =>
    portWritten_of_same (by rw [same]) (by rw [same]; exact steady)
  have kept := modeStored_other g p v
  unfold Gateway.writePort
  rw [storePortWords_mode]
  cases p with
  | a => exact other _ (by rw [portWritten_words, kept])
  | b =>
    have first : (g.modeStored .b v).portWritten .a (g.port .a) = g.modeStored .b v := other _ (by rw [kept])
    rw [first]

/-- The rate moves only while the port is OFFLINE: elsewhere its word 0 is protected (R22, R43). -/
theorem rate_of_open {g : Gateway} {p : PortId} {v : Word} (free : g.protectedTarget .port (modeIndex p) v = false)
    (runs : (g.port p).state ≠ .offline) : rateCode v = rateCode (g.port p).words.control := by
  have index : modeIndex p % 8 = 0 ∧ portOfIndex (modeIndex p) = p := by cases p <;> decide
  simpa [Gateway.protectedTarget, index.1, index.2, runs] using free

/-! ## The commands that name what a WRITE does (entry 6) -/

theorem writeBrings_of_succeeds {g : Gateway} {ex : Execution} {ws : List Word} {p : PortId} {c : Port → Bool}
    (succeeds : g.Succeeds ex (.write ws)) (before : c (g.port p) = false)
    (brings : c ((g.writeTable g.windowTable (writeTargets g.windowTable g.windowIndex ws)).port p) = true) :
    g.writeBrings p c = true := by
  have access := access_of_succeeds succeeds rfl
  have moved : ∀ h : Gateway, (h.moveWindow ws.length).port p = h.port p := fun h => by cases p <;> rfl
  unfold Gateway.writeBrings
  rw [currentOp_of_runs succeeds.1]
  dsimp only
  rw [writeWindow_of_succeeds succeeds]
  simp [access, before, moved, brings]

theorem portOffline_effect {g : Gateway} {p : PortId} (brings : g.writeBrings p Port.isOffline = true) :
    effect (.portOffline p) g = effect .write g := if_pos brings

theorem portOnline_effect {g : Gateway} {p : PortId} (brings : g.writeBrings p Port.online = true) :
    effect (.portOnline p) g = effect .write g := if_pos brings

/-! ## What a port taken OFFLINE keeps on its line (R21, R35) -/

theorem flushed_line (q : Port) :
    (q.tx.onLine = true → q.flushed.view = .resync 0 ∧ q.flushed.rx = .rIdle) ∧
      (q.tx.onLine = false → q.flushed.view = q.view ∧ q.flushed.rx = q.rx) := by
  have claim : ∀ r : Port, r.endClaim.view = r.view ∧ r.endClaim.rx = r.rx := fun r => by
    unfold Port.endClaim
    split <;> exact ⟨rfl, rfl⟩
  obtain ⟨view, rx⟩ := claim q.stopSending
  have flushView : q.flushed.view = q.stopSending.view := view
  have flushRx : q.flushed.rx = q.stopSending.rx := rx
  rw [flushView, flushRx]
  refine ⟨fun online => ?_, fun offline => ?_⟩
  · rw [Port.stopSending, if_pos online]
    exact ⟨rfl, rfl⟩
  · rw [Port.stopSending, if_neg (by simp [offline])]
    exact ⟨rfl, rfl⟩

theorem flushed_role (q : Port) : q.flushed.role = .nonClaimant := by
  have claim : q.stopSending.endClaim.role = .nonClaimant := by
    unfold Port.endClaim
    split
    · assumption
    · rfl
    · rfl
  exact claim

/-! ## A port taken ONLINE (R19, R22, R87) -/

/-- An OFFLINE port once its word 0 is stored: at a new rate it resynchronises (R22). -/
def Port.retuned (q : Port) (v : Word) : Port :=
  let r := q.withWords (q.words.set 0 v)
  if rateCode v ≠ rateCode q.words.control then r.changeRate else r

theorem retuned_kept (q : Port) (v : Word) :
    (q.retuned v).words = q.words.set 0 v ∧ (q.retuned v).linkUp = q.linkUp ∧ (q.retuned v).slot = q.slot ∧
      (q.retuned v).pendingPause = q.pendingPause ∧ (q.retuned v).urgent = q.urgent ∧ (q.retuned v).normal = q.normal := by
  unfold Port.retuned
  dsimp only
  split
  · obtain ⟨_, _, _, -, same⟩ := setFault_eq { q.withWords (q.words.set 0 v) with
      view := .resync 0, rx := .rIdle, role := .nonClaimant, staging := none, record := none } .stuckDominant false
    unfold Port.changeRate
    rw [same]
    exact ⟨rfl, rfl, rfl, rfl, rfl, rfl⟩
  · exact ⟨rfl, rfl, rfl, rfl, rfl, rfl⟩

theorem retuned_of_newRate {q : Port} {v : Word} (other : rateCode v ≠ rateCode q.words.control) :
    (q.retuned v).view = .resync 0 ∧ (q.retuned v).rx = .rIdle ∧ (q.retuned v).staging = none := by
  obtain ⟨_, _, _, -, same⟩ := setFault_eq { q.withWords (q.words.set 0 v) with
    view := .resync 0, rx := .rIdle, role := .nonClaimant, staging := none, record := none } .stuckDominant false
  have changed : q.retuned v = (q.withWords (q.words.set 0 v)).changeRate := if_pos other
  rw [changed, Port.changeRate]
  dsimp only at same ⊢
  rw [same]
  exact ⟨rfl, rfl, rfl⟩

theorem retuned_of_sameRate {q : Port} {v : Word} (same : rateCode v = rateCode q.words.control) :
    q.retuned v = q.withWords (q.words.set 0 v) := if_neg (not_not.mpr same)

/-- The port in the substate of its link level (R19). -/
def Port.broughtOnline (q : Port) : Port := { q with state := if q.linkUp then .active else .linkDown }

theorem broughtOnline_online (q : Port) : q.broughtOnline.online = true := by
  unfold Port.broughtOnline Port.online
  dsimp only
  split <;> rfl

/-- A port that held nothing to send has nothing to select when it comes back (R22, R57). -/
theorem broughtOnline_settled {q : Port} (offline : q.online = false) (out : q.QuietWhenOut) (v : Word) :
    (q.retuned v).broughtOnline.Settled := by
  obtain ⟨count, -, -, -, asks⟩ := out.resolve_left (by simp [offline])
  obtain ⟨-, -, -, pending, urgent, normal⟩ := retuned_kept q v
  unfold Port.egressCount at count
  have noUrgent : q.urgent = [] := List.length_eq_zero_iff.mp (by omega)
  have noNormal : q.normal = [] := List.length_eq_zero_iff.mp (by omega)
  exact fun _ _ => ⟨pending.trans asks, fun _ => ⟨urgent.trans noUrgent, normal.trans noNormal⟩⟩

theorem goOnline_eq (g : Gateway) (p : PortId) :
    g.goOnline p = if ((g.modPort p Port.broughtOnline).port p).linkUp = true
      then (g.modPort p Port.broughtOnline).promptActive p else g.modPort p Port.broughtOnline := rfl

/-- What a WRITE of mode ONLINE leaves of an OFFLINE port and of the other (R19, R22, R87). -/
theorem portWritten_online {g : Gateway} {p : PortId} {v : Word} (offline : (g.port p).state = .offline)
    (mode : v.getLsbD 15 = true) :
    AllBut [.portA, .portB] g ((g.modeStored p v).portWritten p (g.port p)) ∧
      ((g.modeStored p v).portWritten p (g.port p)).port p = ((g.port p).retuned v).broughtOnline ∧
      ((g.modeStored p v).portWritten p (g.port p)).port p.other =
        Port.promptIf (fun r => (g.port p).linkUp && r.forwards) (g.port p.other) := by
  have word := modeWord (g.port p).words v
  have stored := modeStored_port g p v
  obtain ⟨words, linkUp, -⟩ := retuned_kept (g.port p) v
  have rated : (if rateCode ((g.modeStored p v).port p).words.control ≠ rateCode (g.port p).words.control then
      (g.modeStored p v).modPort p Port.changeRate else g.modeStored p v) = g.setPort p ((g.port p).retuned v) := by
    have rate : rateCode ((g.modeStored p v).port p).words.control = rateCode v := by
      rw [stored]
      exact word.2.2
    rw [rate]
    by_cases same : rateCode v = rateCode (g.port p).words.control
    · rw [if_neg (not_not.mpr same), retuned_of_sameRate same]
      rfl
    · have changed : (g.port p).retuned v = ((g.port p).withWords ((g.port p).words.set 0 v)).changeRate := if_pos same
      rw [if_pos same, changed, Gateway.modPort, stored]
      exact Gateway.setPort_setPort _ _ _ _
  have online : (g.setPort p ((g.port p).retuned v)).goOnline p =
      if (g.port p).linkUp then (g.setPort p ((g.port p).retuned v).broughtOnline).promptActive p
      else g.setPort p ((g.port p).retuned v).broughtOnline := by
    have brought : (g.setPort p ((g.port p).retuned v)).modPort p Port.broughtOnline =
        g.setPort p ((g.port p).retuned v).broughtOnline := by
      rw [Gateway.modPort, Gateway.port_setPort_self, Gateway.setPort_setPort]
    rw [goOnline_eq, brought, Gateway.port_setPort_self, ← linkUp]
    rfl
  have is : (g.modeStored p v).portWritten p (g.port p) = (g.setPort p ((g.port p).retuned v)).goOnline p := by
    unfold Gateway.portWritten
    dsimp only
    rw [rated, Gateway.port_setPort_self, words, word.2.1]
    exact if_pos ⟨offline, mode⟩
  have sets := setPort_allBut g p ((g.port p).retuned v).broughtOnline
  rw [is, online]
  have set : AllBut [.portA, .portB] g (g.setPort p ((g.port p).retuned v).broughtOnline) :=
    sets.mono (by cases p <;> simp [portPart])
  by_cases up : (g.port p).linkUp = true
  · rw [if_pos up]
    refine ⟨set.trans (modPort_allBut_ports _ p.other _), ?_, ?_⟩
    · rw [Gateway.promptActive, Gateway.port_other_modPort, Gateway.port_setPort_self]
    · rw [Gateway.promptActive, Gateway.port_modPort_self, Gateway.port_setPort_other]
      simp only [up, Bool.true_and]
  · rw [if_neg up]
    refine ⟨set, Gateway.port_setPort_self _ _ _, ?_⟩
    rw [Gateway.port_setPort_other]
    simp only [up, Bool.false_and, promptIf_never]

/-! ## A WRITE of mode OFFLINE (R21) -/

theorem portWritten_offline {g : Gateway} {p : PortId} {v : Word} (online : (g.port p).online = true)
    (mode : v.getLsbD 15 = false) (rate : rateCode v = rateCode (g.port p).words.control) :
    (g.modeStored p v).portWritten p (g.port p) = (g.modeStored p v).goOffline p := by
  have word := modeWord (g.port p).words v
  have stored := modeStored_port g p v
  have stands : ¬ (g.port p).state = .offline := fun out => by simp [Port.online, out] at online
  have written : ((g.modeStored p v).port p).words.modeOnline = false := by
    rw [stored]
    exact word.2.1.trans mode
  have same : rateCode ((g.modeStored p v).port p).words.control = rateCode (g.port p).words.control := by
    rw [stored]
    exact word.2.2.trans rate
  unfold Gateway.portWritten
  dsimp only
  rw [if_neg (not_not.mpr same), if_neg fun both => stands both.1]
  exact if_pos ⟨online, by simp [written]⟩

/-- What a WRITE of mode OFFLINE leaves of an ONLINE port, by the part before it (R21, R49, R63, R126). -/
theorem modeOffline_outcome {g : Gateway} (quiet : g.Quiet) (p : PortId) (v : Word) (few : g.agentQueue.length ≤ 2) :
    let t := (g.modeStored p v).goOffline p
    AllBut [.portA, .portB, .free, .counters, .agentQueue, .restart, .monitor] g t ∧
      t.port p = ((g.port p).withWords ((g.port p).words.set 0 v)).flushed ∧
      t.port p.other = Port.promptIf
        (fun _ => decide (0 < (g.port p).egressCount + g.agentQueue.countP (AgentEntry.waitsOn p))) (g.port p.other) ∧
      t.counters = g.counters.set (portCounterIndex p .flushed)
        (g.counters.getD (portCounterIndex p .flushed) 0 + BitVec.ofNat 16 (g.port p).egressCount) ∧
      t.free = g.free + (g.port p).egressCount + g.agentQueue.countP (AgentEntry.waitsOn p) ∧
      t.agentQueue = g.agentQueue.filter fun e => !AgentEntry.waitsOn p e := by
  have stores := modeStored_allBut g p v
  have queueKept : (g.modeStored p v).agentQueue = g.agentQueue := stores .agentQueue (by decide)
  have countersKept : (g.modeStored p v).counters = g.counters := stores .counters (by decide)
  have freeKept : (g.modeStored p v).free = g.free := stores .free (by decide)
  have egress : ((g.modeStored p v).port p).egressCount = (g.port p).egressCount := by
    rw [modeStored_port]
    rfl
  obtain ⟨frame, own, other, counters, free, queue⟩ :=
    goOffline_wentOffline (quiet.of_frame stores (by decide)) p (by rw [queueKept]; exact few)
  rw [modeStored_port] at own
  rw [modeStored_other, egress, queueKept] at other
  rw [egress, countersKept] at counters
  rw [egress, queueKept, freeKept] at free
  rw [queueKept] at queue
  exact ⟨(stores.mono (by decide)).trans frame, own, other, counters, free, queue⟩

theorem settled_of_port {g : Gateway} {p : PortId} (own : (g.port p).Settled) (other : (g.port p.other).Settled) :
    g.Settled := by
  cases p with
  | a => exact ⟨own, other⟩
  | b => exact ⟨other, own⟩

/-! ## The mode statement -/

/-- A WRITE of one mode word, with no selection to take after it: the part it leaves (R123, R129). -/
theorem modeWrite_effect {g : Gateway} {ex : Execution} {p : PortId} {v : Word} (succeeds : g.Succeeds ex (.write [v]))
    (more : ex.ops.tail ≠ []) (table : g.windowTable = .port) (index : g.windowIndex = modeIndex p)
    (steady : (g.port p.other).words.modeOnline = (g.port p.other).online)
    (settled : ((g.modeStored p v).portWritten p (g.port p)).Settled) :
    effect .write g = ((g.modeStored p v).portWritten p (g.port p)).wrote ex 1 ∧
      ∀ c : Port → Bool, c (g.port p) = false → c (((g.modeStored p v).portWritten p (g.port p)).port p) = true →
        g.writeBrings p c = true := by
  have is : g.writeTable g.windowTable (writeTargets g.windowTable g.windowIndex [v]) =
      (g.modeStored p v).portWritten p (g.port p) := by
    rw [table, index, modeTargets]
    exact writePort_mode steady v
  constructor
  · rw [write_effect succeeds more, is]
    exact settle_of_settled _ (settled_of_same (g := (g.modeStored p v).portWritten p (g.port p)) rfl rfl settled)
  · intro c before brings
    refine writeBrings_of_succeeds succeeds before ?_
    rw [is]
    exact brings

/-- A WRITE of one mode word, named by either of its commands, leaves the ports as the WRITE has them (R129, entry 6). -/
theorem modeWrite_step {s : State} {ex : Execution} {p : PortId} {v : Word} {c named : Instr} {d : Port → Bool}
    {f : DecisionRecord → Bool} {W : Gateway} (succeeds : s.gw.Succeeds ex (.write [v])) (more : ex.ops.tail ≠ [])
    (table : s.gw.windowTable = .port) (index : s.gw.windowIndex = modeIndex p)
    (steady : (s.gw.port p.other).words.modeOnline = (s.gw.port p.other).online) (settled : s.gw.Settled)
    (is : (s.gw.modeStored p v).portWritten p (s.gw.port p) = W) (own : (W.port p).Settled)
    (other : W.port p.other = Port.promptIf f (s.gw.port p.other)) (either : c ∈ [Instr.write, named])
    (command : s.gw.writeBrings p d = true → effect named s.gw = effect .write s.gw) (before : d (s.gw.port p) = false)
    (after : d (W.port p) = true) :
    ∃ t : State, exec c s = .next t ∧ t.pending = s.pending ∧ AllBut [.exec, .window] W t.gw ∧
      ∀ x, t.gw.port x = W.port x := by
  subst is
  have still : ((s.gw.modeStored p v).portWritten p (s.gw.port p)).Settled := by
    refine settled_of_port (p := p) own ?_
    rw [other]
    exact promptIf_settled (settled.port p.other)
  obtain ⟨writes, brings⟩ := modeWrite_effect succeeds more table index steady still
  have same : effect c s.gw = effect .write s.gw := by
    rcases List.mem_cons.mp either with rfl | last
    · rfl
    · rw [List.mem_singleton.mp last]
      exact command (brings d before after)
  refine exec_of_effect ⟨rfl, ?_⟩
  rw [same, writes]
  exact ⟨wrote_allBut _ ex 1, wrote_port _ ex 1⟩

/-- Settles O45, by the mode that is written. -/
theorem portModeWrites : Obligations.PortModeWrites := by
  intro s ex p v c succeeds settled more table index steady q o waiting
  have window : s.gw.windowIndex = modeIndex p := index
  refine ⟨fun either online mode few off quiet => ?_, fun either offline mode out => ?_⟩
  · have free : s.gw.protectedTarget .port (modeIndex p) v = false := by
      obtain ⟨-, -, -, -, -, open_, -⟩ := writeWindow_done (writeWindow_of_succeeds succeeds)
      rw [table, window, modeTargets] at open_
      exact open_ _ List.mem_cons_self
    have stands : q.state ≠ .offline := fun out => by simp [Port.online, out] at online
    have written := portWritten_offline online mode (rate_of_open free stands)
    obtain ⟨frame, own, other, counters, freed, queue⟩ := modeOffline_outcome ⟨off, quiet⟩ p v few
    obtain ⟨t, steps, pending, runs, ports⟩ := modeWrite_step succeeds more table window steady settled written
      (by rw [own]; exact nofun) other either portOffline_effect (by simpa [Port.isOffline] using stands) (by rw [own]; rfl)
    obtain ⟨words, -⟩ := flushed_frame (q.withWords (q.words.set 0 v))
    obtain ⟨sends, waits⟩ := flushed_line (q.withWords (q.words.set 0 v))
    have role := flushed_role (q.withWords (q.words.set 0 v))
    have countersKept : t.gw.counters = _ := runs .counters (by decide)
    have freeKept : t.gw.free = _ := runs .free (by decide)
    have queueKept : t.gw.agentQueue = _ := runs .agentQueue (by decide)
    refine ⟨t, steps, pending, (frame.mono (by decide)).trans (runs.mono (by decide)), ?_⟩
    rw [ports, ports, own]
    refine ⟨rfl, rfl, rfl, rfl, rfl, rfl, rfl, rfl, rfl, role, rfl, ?_, ?_, fun timer retest r role record => ?_,
      fun sending => sends ?_, fun idle => waits ?_, countersKept.trans counters, freeKept.trans freed,
      queueKept.trans queue⟩
    · rw [words]
      rfl
    · rw [other]
      exact promptIf_eq _ _
    · rw [other]
      exact promptIf_of_holding role record
    · show q.tx.onLine = true
      rcases sending with tx | tx | tx <;> rw [tx] <;> rfl
    · show q.tx.onLine = false
      rcases idle with tx | tx <;> rw [tx] <;> rfl
  · obtain ⟨frame, own, other⟩ := portWritten_online (g := s.gw) offline mode
    obtain ⟨words, linkUp, -⟩ := retuned_kept q v
    have offlineNow : q.online = false := by simp [Port.online, offline]
    obtain ⟨t, steps, pending, runs, ports⟩ := modeWrite_step succeeds more table window steady settled rfl
      (by rw [own]; exact broughtOnline_settled offlineNow out v) other either portOnline_effect offlineNow
      (by rw [own]; exact broughtOnline_online _)
    refine ⟨t, steps, pending, (frame.mono (by decide)).trans (runs.mono (by decide)), ?_⟩
    rw [ports, ports, own]
    refine ⟨?_, ?_, ?_, fun timer retest r role record => ?_, fun rate => ?_, fun rate => ?_⟩
    · rw [← linkUp]
      rfl
    · show (q.retuned v).words.control = _
      rw [words]
      rfl
    · rw [other]
      exact promptIf_eq _ _
    · rw [other]
      exact promptIf_of_holding role record
    · rw [show (s.gw.port p).retuned v = _ from retuned_of_sameRate rate]
      rfl
    · obtain ⟨view, rx, staging⟩ := retuned_of_newRate rate
      exact ⟨view, rx, staging, linkUp⟩

end Sys2Proof.Machine
end
